-- ==== Sys2Proof/Word.lean ====
section
/-! DEFINITION. The bit-vector types of the block, by width (spec/10_state.md R20: widths 8, 16 and 32
for the data cells; spec/30_encoding.md R80: 4-bit step words and 11-bit event words). -/

namespace Sys2Proof

/-- A byte: a received command byte, a message byte, the cursor (R31, R38, R61). -/
abbrev Byte := BitVec 8

/-- A 16-bit cell: `CNT_MSG`, `CNT_TRIG`, `PULSE`, `DISTANCE`, `HOLD_CNT`, `T_D` (R20). -/
abbrev Half := BitVec 16

/-- A 32-bit cell: `CNT_LED`, `LED_PERIOD` (R20). -/
abbrev Word := BitVec 32

/-- A 4-bit value: `ML_PC`, `MSG_SEL`, `T_MSG` (R20). -/
abbrev Nibble := BitVec 4

/-- A word of format EVT: `ev` in bits 10:8, `arg` in bits 7:0 (R80). -/
abbrev EvtWord := BitVec 11

end Sys2Proof
end

