-- ==== Sys2Proof/Syntax.lean ====
section
/-! DEFINITION. The operations of the block: one constructor per row of spec/opcode_table.json, the three formats
(spec/30_encoding.md R80), the words of each format, and the reasons a word is rejected. -/

namespace Sys2Proof

/-- The operations (spec/00_scope.md section 2): commands, event handlers, main-loop steps. -/
inductive Instr where
  /-- `FWD`, `'w'` (R180). -/
  | fwd
  /-- `BACK`, `'s'` (R181). -/
  | back
  /-- `STOP`, `'q'` (R182). -/
  | stop
  /-- `OBST`, `'X'` (R183). -/
  | obst
  /-- `CCW`, `'a'` (R184). -/
  | ccw
  /-- `CW`, `'d'` (R185). -/
  | cw
  /-- `REPORT`, `'e'` (R186). -/
  | report
  /-- `SPD70`, `'7'` (R187). -/
  | spd70
  /-- `SPD80`, `'8'` (R188). -/
  | spd80
  /-- `SPD100`, `'0'` (R189). -/
  | spd100
  /-- `UNKNOWN`: any of the other 246 bytes (R84, R190). -/
  | unknown (op : Byte)
  /-- `TICK` (R100). -/
  | tick
  /-- `ECHO(1)` (R120, R121). -/
  | echoRise
  /-- `ECHO(0)` (R120, R122). -/
  | echoFall
  /-- `RX(b)` (R150). -/
  | rx (b : Byte)
  /-- `TXC` (R163). -/
  | txc
  /-- `MAIN` (R211). -/
  | main
  /-- `RESET` (R260). -/
  | reset
  /-- `POLL_ECHO` (R130). -/
  | pollEcho
  /-- `EST_LOAD` (R131). -/
  | estLoad
  /-- `EST_DIST` (R132). -/
  | estDist
  /-- `EST_LED` (R133, R136). -/
  | estLed
  /-- `EST_FMT` (R134). -/
  | estFmt
  /-- `POLL_OBST` (R213). -/
  | pollObst
  /-- `POLL_CMD` (R152). -/
  | pollCmd
  /-- `EXEC` (R191). -/
  | exec
  /-- `TURN_HOLD` (R194). -/
  | turnHold
  /-- `TURN_END` (R195). -/
  | turnEnd
  /-- `SEL` (R165). -/
  | sel
  deriving DecidableEq, Repr

/-- The three formats, three separate decode spaces (R80). -/
inductive Format where
  | cmd
  | evt
  | mls
  deriving DecidableEq, Repr

/-- A word together with the decode space it comes from (R80: the kind of an operation is known from where
it comes, never from its bits). -/
inductive OpWord where
  /-- The receiver's data byte. -/
  | cmd (op : Byte)
  /-- An event: `ev` in bits 10:8, `arg` in bits 7:0. -/
  | evt (w : EvtWord)
  /-- The value of `ML_PC`. -/
  | mls (pc : Nibble)
  deriving DecidableEq, Repr

/-- Why a word is rejected (R87, R90, U9). -/
inductive DecodeError where
  /-- `ev` is 6 or 7: never generated, a model refuses them (R87). -/
  | reservedEvent
  /-- `pc` is 11 to 15: unreachable (R30, R90). -/
  | reservedMainStep
  deriving DecidableEq, Repr

/-- The two contexts of spec/60_exceptions.md R240, and reset, which belongs to neither (R261). -/
inductive Context where
  | interrupt
  | mainLoop
  | reset
  deriving DecidableEq, Repr

/-- The format of an operation (R80). -/
def Instr.format : Instr → Format
  | .fwd | .back | .stop | .obst | .ccw | .cw | .report | .spd70 | .spd80 | .spd100 | .unknown _ => .cmd
  | .tick | .echoRise | .echoFall | .rx _ | .txc | .main | .reset => .evt
  | .pollEcho | .estLoad | .estDist | .estLed | .estFmt | .pollObst | .pollCmd | .exec | .turnHold | .turnEnd
  | .sel => .mls

/-- The context an operation runs in (R240): the four handlers in interrupt context, every step and command in the
main loop, `MAIN` with them (R211). -/
def Instr.context : Instr → Context
  | .tick | .echoRise | .echoFall | .rx _ | .txc => .interrupt
  | .reset => .reset
  | .fwd | .back | .stop | .obst | .ccw | .cw | .report | .spd70 | .spd80 | .spd100 | .unknown _ | .main
  | .pollEcho | .estLoad | .estDist | .estLed | .estFmt | .pollObst | .pollCmd | .exec | .turnHold | .turnEnd
  | .sel => .mainLoop

/-- The decode space of a word. -/
def OpWord.format : OpWord → Format
  | .cmd _ => .cmd
  | .evt _ => .evt
  | .mls _ => .mls

end Sys2Proof
end

