-- ==== Sys2Proof/WellFormed.lean ====
section
/-! DEFINITION. Well-formed operations: `UNKNOWN` stands for the 246 bytes that are no command (R84); every other
constructor admits every operand. -/

namespace Sys2Proof

/-- The byte is one of the ten command opcodes of spec/30_encoding.md R83. -/
def isCommandByte (b : Byte) : Bool :=
  [0x77#8, 0x73#8, 0x71#8, 0x58#8, 0x61#8, 0x64#8, 0x65#8, 0x37#8, 0x38#8, 0x30#8].contains b

/-- An `UNKNOWN` operation carries a byte that no other CMD row matches (R84, R190). -/
def Instr.wellFormed : Instr → Bool
  | .unknown op => !isCommandByte op
  | .fwd | .back | .stop | .obst | .ccw | .cw | .report | .spd70 | .spd80 | .spd100 => true
  | .tick | .echoRise | .echoFall | .rx _ | .txc | .main | .reset => true
  | .pollEcho | .estLoad | .estDist | .estLed | .estFmt | .pollObst | .pollCmd | .exec | .turnHold | .turnEnd
  | .sel => true

end Sys2Proof
end

