-- ==== Sys2Proof/Decode.lean ====
section
/-! DEFINITION. The decoder of the three formats (spec/30_encoding.md R80 to R90), total and rejecting by name, the
encoder, and the reading of a word as spec/opcode_table.json numbers it. -/

namespace Sys2Proof

/-! ### The command opcodes (R83) -/

/-- `'w'` -/
abbrev opFwd : Byte := 0x77#8
/-- `'s'` -/
abbrev opBack : Byte := 0x73#8
/-- `'q'` -/
abbrev opStop : Byte := 0x71#8
/-- `'X'`, the obstacle code -/
abbrev opObst : Byte := 0x58#8
/-- `'a'` -/
abbrev opCcw : Byte := 0x61#8
/-- `'d'` -/
abbrev opCw : Byte := 0x64#8
/-- `'e'` -/
abbrev opReport : Byte := 0x65#8
/-- `'7'` -/
abbrev opSpd70 : Byte := 0x37#8
/-- `'8'` -/
abbrev opSpd80 : Byte := 0x38#8
/-- `'0'` -/
abbrev opSpd100 : Byte := 0x30#8

/-! ### The values of `ML_PC` (R90) -/

abbrev pcPollEcho : Nibble := 0#4
abbrev pcEstLoad : Nibble := 1#4
abbrev pcEstDist : Nibble := 2#4
abbrev pcEstLed : Nibble := 3#4
abbrev pcEstFmt : Nibble := 4#4
abbrev pcPollObst : Nibble := 5#4
abbrev pcPollCmd : Nibble := 6#4
abbrev pcExec : Nibble := 7#4
abbrev pcTurnHold : Nibble := 8#4
abbrev pcTurnEnd : Nibble := 9#4
abbrev pcSel : Nibble := 10#4

/-! ### Fields of an EVT word (R80) -/

/-- `ev`, bits 10:8. -/
def evField (w : EvtWord) : BitVec 3 := w.extractLsb' 8 3

/-- `arg`, bits 7:0. -/
def argField (w : EvtWord) : Byte := w.extractLsb' 0 8

/-- The EVT word with the given `ev` and `arg`. -/
def evtWord (ev : BitVec 3) (arg : Byte) : EvtWord := ev ++ arg

/-! ### The decoder -/

/-- Format CMD: all eight bits take part in the match (R81); a byte that is no command is `UNKNOWN` (R84). -/
def decodeCmd (op : Byte) : Instr :=
  if op = opFwd then .fwd
  else if op = opBack then .back
  else if op = opStop then .stop
  else if op = opObst then .obst
  else if op = opCcw then .ccw
  else if op = opCw then .cw
  else if op = opReport then .report
  else if op = opSpd70 then .spd70
  else if op = opSpd80 then .spd80
  else if op = opSpd100 then .spd100
  else .unknown op

/-- Format EVT (R87): bits 7:1 of an `ECHO` payload and the whole payload of `TICK`, `TXC`, `MAIN` and `RESET` are
ignored (R80). -/
def decodeEvt (w : EvtWord) : Except DecodeError Instr :=
  match evField w with
  | 0#3 => .ok .tick
  | 1#3 => .ok (if (argField w).getLsbD 0 then .echoRise else .echoFall)
  | 2#3 => .ok (.rx (argField w))
  | 3#3 => .ok .txc
  | 4#3 => .ok .main
  | 5#3 => .ok .reset
  | _ => .error .reservedEvent

/-- Format MLS (R90). -/
def decodeMls (pc : Nibble) : Except DecodeError Instr :=
  match pc with
  | 0#4 => .ok .pollEcho
  | 1#4 => .ok .estLoad
  | 2#4 => .ok .estDist
  | 3#4 => .ok .estLed
  | 4#4 => .ok .estFmt
  | 5#4 => .ok .pollObst
  | 6#4 => .ok .pollCmd
  | 7#4 => .ok .exec
  | 8#4 => .ok .turnHold
  | 9#4 => .ok .turnEnd
  | 10#4 => .ok .sel
  | _ => .error .reservedMainStep

/-- The decoder over the three decode spaces (R80). -/
def decode : OpWord → Except DecodeError Instr
  | .cmd op => .ok (decodeCmd op)
  | .evt w => decodeEvt w
  | .mls pc => decodeMls pc

/-! ### The encoder -/

/-- The word of an operation (R83, R87, R90). Ignored payload bits are 0. -/
def encode : Instr → OpWord
  | .fwd => .cmd 0x77#8
  | .back => .cmd 0x73#8
  | .stop => .cmd 0x71#8
  | .obst => .cmd 0x58#8
  | .ccw => .cmd 0x61#8
  | .cw => .cmd 0x64#8
  | .report => .cmd 0x65#8
  | .spd70 => .cmd 0x37#8
  | .spd80 => .cmd 0x38#8
  | .spd100 => .cmd 0x30#8
  | .unknown op => .cmd op
  | .tick => .evt (evtWord 0#3 0#8)
  | .echoRise => .evt (evtWord 1#3 1#8)
  | .echoFall => .evt (evtWord 1#3 0#8)
  | .rx b => .evt (evtWord 2#3 b)
  | .txc => .evt (evtWord 3#3 0#8)
  | .main => .evt (evtWord 4#3 0#8)
  | .reset => .evt (evtWord 5#3 0#8)
  | .pollEcho => .mls 0#4
  | .estLoad => .mls 1#4
  | .estDist => .mls 2#4
  | .estLed => .mls 3#4
  | .estFmt => .mls 4#4
  | .pollObst => .mls 5#4
  | .pollCmd => .mls 6#4
  | .exec => .mls 7#4
  | .turnHold => .mls 8#4
  | .turnEnd => .mls 9#4
  | .sel => .mls 10#4

/-! ### Words as the opcode table numbers them -/

/-- The decode space of a table word. The table's EVT rows have 11 bits, so more than one byte; its CMD rows have 8
bits and its MLS rows 4, both one byte once rounded up. A one-byte word that is a step number (0 to 10) is read
as the MLS row, any other as the CMD row: the numbering alone cannot tell the two spaces apart (R80; DESIGN
CHOICE, log 12). -/
def tableWord (nbits w : Nat) : OpWord :=
  if nbits ≤ 4 then .mls (BitVec.ofNat 4 w)
  else if nbits ≤ 8 then
    if w ≤ 10 then .mls (BitVec.ofNat 4 w) else .cmd (BitVec.ofNat 8 w)
  else .evt (BitVec.ofNat 11 w)

/-- The operation the decoder reads from a word of spec/opcode_table.json. -/
def decodeTableWord (nbits w : Nat) : Option Instr :=
  (decode (tableWord nbits w)).toOption

end Sys2Proof
end

