-- ==== Sys2Proof/Config.lean ====
section
/-! DEFINITION. The parameters of the block (spec/00_scope.md R8 and R9) as one record, the defaults the
spec gives them, and the free values: the environment's choice of the next event, a division by a configured 0, and a wrapped difference
past one wrap. -/

namespace Sys2Proof

/-- What `EST_LED` does for `DISTANCE < LED_OFF` (R9, U1, D5): `clamp` is R133, `wrap16` is R136. -/
inductive LedLowPolicy where
  | clamp
  | wrap16
  deriving DecidableEq, Repr

/-- `DUTY_SET` (R8): the legal duty-cycle percentages, in the 7 bits of `DUTY_PCT` (R41). R187 to R189 and R52 give the
literals 70, 80 and 100 only: which member of a replaced set a command selects and reset takes is the model's choice
(DESIGN CHOICE, log 19). -/
structure DutySet where
  /-- What `'7'` selects, 70 by default (R187). -/
  spd70 : BitVec 7
  /-- What `'8'` selects, 80 by default (R188). -/
  spd80 : BitVec 7
  /-- What `'0'` selects, 100 by default (R189), which R52 makes the reset value of `DUTY_PCT`. That reset takes this member
  of a replaced set is the model's choice (log 19). -/
  spd100 : BitVec 7
  deriving DecidableEq, Repr

/-- `DUTY_SET` at the document's literals, 70, 80 and 100 percent (R8). -/
def DutySet.default : DutySet where
  spd70 := 70#7
  spd80 := 80#7
  spd100 := 100#7

/-- The parameters of R8 and R9. They are configuration, fixed for a run (R20): no step changes them. -/
structure Config where
  /-- `TICK_US`, the tick period in microseconds: timing only, no rule reads it (R8). -/
  tickUs : Nat
  /-- `PWM_HZ`, the PWM carrier in hertz: timing only, no rule reads it (R8). -/
  pwmHz : Nat
  /-- `P_MSG`, the message-resend period in ticks (R8). -/
  pMsg : Nat
  /-- `P_TRIG`, the trigger-pulse period in ticks (R8). -/
  pTrig : Nat
  /-- `D_MIN`, the minimum-distance threshold in centimetres, inclusive (R8). -/
  dMin : Nat
  /-- `K_NUM`, the numerator factor of the distance formula (R8). -/
  kNum : Nat
  /-- `K_DEN`, the denominator of the distance formula (R8); for 0 see `divisionByZero` (log 20). -/
  kDen : Nat
  /-- `LED_OFF`, the offset of the LED-period formula (R8); for more than 65536 see `differencePastWrap` (log 21). -/
  ledOff : Nat
  /-- `LED_MUL`, the multiplier of the LED-period formula (R8). -/
  ledMul : Nat
  /-- `LED_DIV`, the divisor of the LED-period formula (R8); for 0 see `divisionByZero` (log 20). -/
  ledDiv : Nat
  /-- `DUTY_SET` (R8). -/
  dutySet : DutySet
  /-- `BIAS_0`, OPEN, 0 to 70 (R9, D18); a value outside the range (U10) cannot be formed. -/
  bias0 : Fin 71
  /-- `BIAS_1`, OPEN, 0 to 70 (R9, D18). -/
  bias1 : Fin 71
  /-- `TURN_HOLD_TICKS`, OPEN, default 1000 (R9, D14). R9 and D14 give no bound; the model admits 0 to 65535, what the 16-bit
  `HOLD_CNT` it is loaded into can hold (R28, D2; DEDUCED, log 22). -/
  turnHoldTicks : Half
  /-- `LED_LOW_POLICY` (R9, D5). -/
  ledLowPolicy : LedLowPolicy
  /-- `MSG_ROM` (R63, D21): the ten messages, each up to and including its line feed; `LEN(m)` is the
  length of row `m`. -/
  msgRom : List (List Byte)
  deriving DecidableEq, Repr

namespace Config

/-- The default message table (R63). The bytes 0 to 2 of message 9 are the reset contents of `DIGITS`
(R52), which is what those addresses read as until `EST_FMT` writes them. -/
def defaultRom : List (List Byte) :=
  [ [0x46#8, 0x52#8, 0x45#8, 0x4E#8, 0x54#8, 0x45#8, 0x0A#8],
    [0x4F#8, 0x42#8, 0x53#8, 0x54#8, 0x41#8, 0x43#8, 0x55#8, 0x4C#8, 0x4F#8, 0x0A#8],
    [0x54#8, 0x52#8, 0x41#8, 0x53#8, 0x0A#8],
    [0x41#8, 0x4E#8, 0x54#8, 0x49#8, 0x2D#8, 0x48#8, 0x4F#8, 0x52#8, 0x41#8, 0x52#8, 0x49#8, 0x4F#8, 0x0A#8],
    [0x48#8, 0x4F#8, 0x52#8, 0x41#8, 0x52#8, 0x49#8, 0x4F#8, 0x0A#8],
    [0x50#8, 0x41#8, 0x52#8, 0x41#8, 0x44#8, 0x4F#8, 0x0A#8],
    [0x56#8, 0x65#8, 0x6C#8, 0x6F#8, 0x63#8, 0x69#8, 0x64#8, 0x61#8, 0x64#8, 0x65#8, 0x20#8, 0x37#8, 0x30#8, 0x25#8, 0x0A#8],
    [0x56#8, 0x65#8, 0x6C#8, 0x6F#8, 0x63#8, 0x69#8, 0x64#8, 0x61#8, 0x64#8, 0x65#8, 0x20#8, 0x38#8, 0x30#8, 0x25#8, 0x0A#8],
    [0x56#8, 0x65#8, 0x6C#8, 0x6F#8, 0x63#8, 0x69#8, 0x64#8, 0x61#8, 0x64#8, 0x65#8, 0x20#8, 0x31#8, 0x30#8, 0x30#8, 0x25#8, 0x0A#8],
    [0x30#8, 0x30#8, 0x30#8, 0x63#8, 0x6D#8, 0x0A#8] ]

/-- The layout of message 9 that every replacement table keeps (R63, R64), with the reset contents of
`DIGITS` (R52) in its three writable places. -/
def reportRow : List Byte := [0x30#8, 0x30#8, 0x30#8, 0x63#8, 0x6D#8, 0x0A#8]

/-- The configuration with every parameter at the default R8, R9 and R63 give it; `PWM_HZ` is "about 1950" there. `BIAS_0` and `BIAS_1` have
no default: 0 is the model's DESIGN CHOICE (log 3), unsafe for a claim about a run from reset that rests on
it. `TURN_HOLD_TICKS` is OPEN with default 1000 (log 4). -/
def default : Config where
  tickUs := 50
  pwmHz := 1950
  dutySet := DutySet.default
  pMsg := 20000
  pTrig := 4000
  dMin := 25
  kNum := 17150
  kDen := 20000
  ledOff := 15
  ledMul := 200
  ledDiv := 3
  bias0 := 0
  bias1 := 0
  turnHoldTicks := 1000#16
  ledLowPolicy := .clamp
  msgRom := defaultRom

/-- The numeric constants the rules compute with are at the document's literals (R8); `DUTY_SET`, the two constants no rule
reads and the parameters of R9 are free. -/
abbrev documentConstants (c : Config) : Prop :=
  c.pMsg = 20000 ∧ c.pTrig = 4000 ∧ c.dMin = 25 ∧ c.kNum = 17150 ∧ c.kDen = 20000 ∧
    c.ledOff = 15 ∧ c.ledMul = 200 ∧ c.ledDiv = 3

/-- Every member of `DUTY_SET` is at least 70 percent, so that no bias makes a duty output underflow (R43). -/
abbrev dutyOk (c : Config) : Prop :=
  70 ≤ c.dutySet.spd70.toNat ∧ 70 ≤ c.dutySet.spd80.toNat ∧ 70 ≤ c.dutySet.spd100.toNat

/-- What the rules of the transmitter need of a message table (R63, R64): ten messages, each of length at least 2, message
9's layout; and at most 256 bytes, so that every index fits the 8-bit `CURSOR` (R31; DEDUCED, log 9). -/
abbrev romShape (c : Config) : Prop :=
  c.msgRom.length = 10 ∧ (∀ row ∈ c.msgRom, 2 ≤ row.length ∧ row.length ≤ 256) ∧
    c.msgRom[9]? = some reportRow

/-- Every message ends in the line feed 0x0A (R85; 90_conflicts.md C10 calls the newline termination normative). -/
abbrev newlineTerminated (c : Config) : Prop := ∀ row ∈ c.msgRom, row.getLast? = some 0x0A#8

/-- A message table the spec allows: its shape, and the newline termination. R63 and D21 ask of a replacement only
`LEN(m) >= 2` and message 9's layout; that it must also end each message in the line feed is read from C10 and R85
(DEDUCED, log 16). -/
abbrev romOk (c : Config) : Prop := c.romShape ∧ c.newlineTerminated

/-- The environment's choice of an event where none has been placed: event number `n` has `ev` 0 to 5 (6
and 7 are never generated, R87) and any payload. It has no body: the environment may deliver any event at any
time (R44, R233, R236, D7; log 1). -/
opaque environment : Nat → Fin 6 × Byte

/-- The result of a division whose configured divisor is 0, as a function of the dividend: a free value with no body. R132
and R135 exclude division by zero because the divisors are non-zero constants; `K_DEN` and `LED_DIV` are parameters
(R8, D24), and what 0 there would give no rule states (DESIGN CHOICE, log 20). -/
opaque divisionByZero : Nat → Nat

/-- The difference `DISTANCE - LED_OFF` under `wrap16` where a configured `LED_OFF` exceeds `DISTANCE + 65536`: a free value
with no body. R136 gives the wrapping formula for an offset of 15 only, R10 gives no result below 0, and `LED_OFF` is a
parameter (R8, D24): no rule states the difference (DESIGN CHOICE, log 21). -/
opaque differencePastWrap : Nat → Nat → Nat

end Config

end Sys2Proof
end

