-- ==== Sys2Proof/Machine/State.lean ====
section
/-! DEFINITION. The state of the block (spec/10_state.md R20: the registers, the output ports of R43 and the
observation trace of R45), the reasons a step can stop, and the state after reset (R52). -/

namespace Sys2Proof.Machine

/-- The MotionState direction, one of five (R40, R88). The values 5 to 7 cannot be formed (U9). -/
inductive Direction where
  | stopped
  | forward
  | backward
  | clockwiseTurn
  | counterClockwiseTurn
  deriving DecidableEq, Repr

/-- `DUTY_PCT` (R41): which member of `DUTY_SET` (R8) it holds, each named by its default, 70, 80 or 100 percent. A value
outside `DUTY_SET` cannot be formed (U9). -/
inductive DutyPct where
  | p70
  | p80
  | p100
  deriving DecidableEq, Repr

/-- `TX_STATE` (R36). -/
inductive TxState where
  | idle
  | sending
  deriving DecidableEq, Repr

/-- One entry of `WIRE`: a byte and the value `TX_OVERRUN` had after its write (R45). -/
structure WireByte where
  byte : Byte
  overrun : Bool
  deriving DecidableEq, Repr

/-- The state of the block, with the model's own fields `cfg`, `due`, `envCount`. -/
structure State where
  /-- MODEL's own: the parameters (R8, R9), which no step changes (log 2). -/
  cfg : Config
  /-- `CNT_MSG` (R21). -/
  cntMsg : Half
  /-- `CNT_TRIG` (R22). -/
  cntTrig : Half
  /-- `CNT_LED` (R23). -/
  cntLed : Word
  /-- `PULSE` (R24). -/
  pulse : Half
  /-- `DISTANCE` (R25). -/
  distance : Half
  /-- `LED_PERIOD` (R26). -/
  ledPeriod : Word
  /-- The writable part of the message space, `DIGITS[0..2]` (R27, R64), in the canonical form `Memory.wf` (log 8). -/
  mem : List Host.Cell
  /-- `HOLD_CNT` (R28). -/
  holdCnt : Half
  /-- `T_D` (R29). -/
  tD : Half
  /-- `T_CMD` (R29). -/
  tCmd : Byte
  /-- `T_MSG` (R29). -/
  tMsg : Nibble
  /-- `ML_PC` (R30). -/
  mlPc : Nibble
  /-- `CURSOR` (R31). -/
  cursor : Byte
  /-- `ECHO_READY` (R32). -/
  echoReady : Bool
  /-- `CMD_PRESENT` (R33). -/
  cmdPresent : Bool
  /-- `LED`, register and port (R34). -/
  led : Bool
  /-- `TRIG`, register and port (R35). -/
  trig : Bool
  /-- `TX_STATE` (R36). -/
  txState : TxState
  /-- `TX_OVERRUN` (R37). -/
  txOverrun : Bool
  /-- `CMD_CODE` (R38). -/
  cmdCode : Byte
  /-- `LAST_CMD` (R39). -/
  lastCmd : Byte
  /-- `DIR` (R40). -/
  dir : Direction
  /-- `DUTY_PCT` (R41). -/
  dutyPct : DutyPct
  /-- `MSG_SEL` (R42). -/
  msgSel : Nibble
  /-- The port `TX_DATA`, held until the next `tx_write` (R11, R43; log 7). -/
  txData : Byte
  /-- The strobe `TX_WRITE`: the last step performed a `tx_write` (R43; log 7). -/
  txStrobe : Bool
  /-- `WIRE`, oldest byte first (R45). -/
  wire : List WireByte
  /-- MODEL's own: the events placed for delivery, next one first (log 1). -/
  due : List EvtWord
  /-- MODEL's own: how many events the environment has chosen by itself (log 1). -/
  envCount : Nat
  deriving DecidableEq, Repr

/-- Why the machine stops with a fault: the states of U9, in which spec/93_implementation_defined.md asks a
model for a fault. None is reachable from reset (R47). All are safe: the model stops where no rule says
what the block does. -/
inductive Fault where
  /-- `ML_PC` is 11 to 15; raised by `MAIN` (R30, U9). Safe. -/
  | reservedMainStep
  /-- A message byte with `m >= 10` or `i >= LEN(m)`; raised by the reads of `TICK`, `TXC`, `SEL` (R62, U9).
  Safe. -/
  | messageOutOfRange
  /-- A `DIGITS[i]` outside 0x30 to 0x39; raised by the same reads (U9). Safe. -/
  | digitOutOfRange
  deriving DecidableEq, Repr

/-- Why a step is refused. -/
inductive Refusal where
  /-- An operation without a meaning yet; no arm of `exec` uses it. Safe. -/
  | notModelled (mnemonic : String)
  /-- A placed event word whose `ev` is 6 or 7: never generated, a model refuses them (R87); raised by `step`.
  Safe. -/
  | reservedEvent
  deriving DecidableEq, Repr

/-- The state right after reset (R52, R260): nothing placed for delivery, every register as R52's table says (`DUTY_PCT` is
100 there; that it is the member `'0'` selects of a replaced `DUTY_SET` is a DESIGN CHOICE, log 19), the configuration at its defaults (log 2, 3, 4), `TX_DATA` and `TX_WRITE` at 0 (DESIGN CHOICE, log 7). -/
def State.reset : State where
  cfg := Config.default
  cntMsg := 0#16
  cntTrig := 0#16
  cntLed := 0#32
  pulse := 0#16
  distance := 0#16
  ledPeriod := 0#32
  mem := []
  holdCnt := 0#16
  tD := 0#16
  tCmd := 0#8
  tMsg := 0#4
  mlPc := 0#4
  cursor := 0#8
  echoReady := false
  cmdPresent := false
  led := false
  trig := false
  txState := .idle
  txOverrun := false
  cmdCode := 0#8
  lastCmd := 0#8
  dir := .stopped
  dutyPct := .p100
  msgSel := 5#4
  txData := 0#8
  txStrobe := false
  wire := []
  due := []
  envCount := 0

end Sys2Proof.Machine
end

