-- ==== Sys2Proof/Machine/Operands.lean ====
section
/-! DEFINITION. The message space (spec/20_memory.md R60 to R64): its addresses, the canonical list that holds its
writable bytes, `MemRead` and the write of `DIGITS`; and the values of `MSG_SEL` and `DIR` (R88, R89). -/

namespace Sys2Proof.Machine

/-! ### Message identifiers (R89) -/

abbrev mFrente : Nibble := 0#4
abbrev mObstaculo : Nibble := 1#4
abbrev mTras : Nibble := 2#4
abbrev mAntiHorario : Nibble := 3#4
abbrev mHorario : Nibble := 4#4
abbrev mParado : Nibble := 5#4
abbrev mVel70 : Nibble := 6#4
abbrev mVel80 : Nibble := 7#4
abbrev mVel100 : Nibble := 8#4
abbrev mDist : Nibble := 9#4

/-! ### Ports computed from registers (R43, R88, R196) -/

/-- The value of `DIR` and of the port `DIR_OUT` (R88). -/
def Direction.code : Direction → BitVec 3
  | .stopped => 0#3
  | .forward => 1#3
  | .backward => 2#3
  | .clockwiseTurn => 3#3
  | .counterClockwiseTurn => 4#3

/-- The percentage `DUTY_PCT` holds (R41): a member of the configured `DUTY_SET` (R8). -/
def DutyPct.percent (d : DutyPct) (set : DutySet) : Nat :=
  match d with
  | .p70 => set.spd70.toNat
  | .p80 => set.spd80.toNat
  | .p100 => set.spd100.toNat

/-- The port `DIR_OUT`, always equal to `DIR` (R43). -/
def dirOut (s : State) : BitVec 3 := s.dir.code

/-- `DUTY_PCT - BIAS_i`, in percent (R43). -/
def dutyOut (percent : Nat) (bias : Fin 71) : BitVec 7 := BitVec.ofNat 7 (percent - bias.val)

/-- The port `DUTY_0` (R43, R196). -/
def duty0 (s : State) : BitVec 7 := dutyOut (s.dutyPct.percent s.cfg.dutySet) s.cfg.bias0

/-- The port `DUTY_1` (R43, R196). -/
def duty1 (s : State) : BitVec 7 := dutyOut (s.dutyPct.percent s.cfg.dutySet) s.cfg.bias1

/-! ### The message space -/

/-- The key of the message-space address (m, i) (R61). The numbering is the model's (DESIGN CHOICE, log 8); nothing
observes it. -/
def msgAddr (m i : Nat) : Nat := 256 * m + i

/-- The keys of the writable bytes, `DIGITS[0..2]` (R64). -/
def isDigitAddr (a : Nat) : Bool := msgAddr 9 0 ≤ a && a < msgAddr 9 3

/-- What an address that no cell lists reads as: the byte of `MSG_ROM`, or no byte where the address does not exist
(R62, R63). For the digits this is their reset contents (R52). -/
def unlisted (c : Config) (a : Nat) : Option Byte :=
  match c.msgRom[a / 256]? with
  | some row => row[a % 256]?
  | none => none

/-- The byte a cell list holds for an address, if it lists it. -/
def Memory.lookup : List Host.Cell → Nat → Option Byte
  | [], _ => none
  | (k, b) :: rest, a => if k = a then some b else Memory.lookup rest a

/-- The list without the cells of one address. -/
def Memory.erase : List Host.Cell → Nat → List Host.Cell
  | [], _ => []
  | (k, b) :: rest, a => if k = a then Memory.erase rest a else (k, b) :: Memory.erase rest a

/-- The list with one cell put in its place by address. -/
def Memory.insert : List Host.Cell → Nat → Byte → List Host.Cell
  | [], a, b => [(a, b)]
  | (k, v) :: rest, a, b => if a < k then (a, b) :: (k, v) :: rest else (k, v) :: Memory.insert rest a b

/-- The byte at an address: the listed one, or what an unlisted address reads as. -/
def Memory.read (c : Config) (mem : List Host.Cell) (a : Nat) : Option Byte :=
  match Memory.lookup mem a with
  | some b => some b
  | none => unlisted c a

/-- Writing one byte keeps the canonical form: a value equal to what the unlisted address reads as removes the cell. -/
def Memory.write (c : Config) (mem : List Host.Cell) (a : Nat) (b : Byte) : List Host.Cell :=
  if unlisted c a = some b then Memory.erase mem a else Memory.insert (Memory.erase mem a) a b

/-- The addresses of the cells strictly rise. -/
def Memory.rising : List Host.Cell → Bool
  | [] => true
  | [_] => true
  | (a, _) :: (k, v) :: rest => decide (a < k) && Memory.rising ((k, v) :: rest)

/-- The canonical form: addresses strictly rising, only writable addresses listed, and no cell equal to what its
address reads as unlisted. -/
def Memory.wf (c : Config) (mem : List Host.Cell) : Bool :=
  Memory.rising mem && mem.all fun cell => isDigitAddr cell.1 && !(unlisted c cell.1 == some cell.2)

/-- `DIGITS[i]`, byte `i` of message 9 (R27, R64). -/
def digit (s : State) (i : Nat) : Byte := (Memory.read s.cfg s.mem (msgAddr 9 i)).getD 0x30#8

/-- An ASCII digit, 0x30 to 0x39 (R27). -/
def isAsciiDigit (b : Byte) : Bool := 0x30#8 ≤ b && b ≤ 0x39#8

/-- `LEN(m)` (R63); `m >= 10` is a fault (R62, U9). -/
def msgLen (s : State) (m : Nibble) : Except Fault Nat :=
  if 10 ≤ m.toNat then .error .messageOutOfRange
  else
    match s.cfg.msgRom[m.toNat]? with
    | some row => .ok row.length
    | none => .error .messageOutOfRange

/-- `MemRead((m, i), 1)` (R62): `MSG_ROM[m][i]` for `m` 0 to 8; for `m` = 9 the digit for `i` 0 to 2 and
`MSG_ROM[9][i]` above. An address with `m >= 10` or `i >= LEN(m)`, and a digit outside 0x30 to 0x39, is a fault
(R62, U9). -/
def memRead (s : State) (m : Nibble) (i : Nat) : Except Fault Byte :=
  if 10 ≤ m.toNat then .error .messageOutOfRange
  else
    match s.cfg.msgRom[m.toNat]? with
    | none => .error .messageOutOfRange
    | some row =>
      match row[i]? with
      | none => .error .messageOutOfRange
      | some b =>
        if m.toNat = 9 ∧ i < 3 then
          if isAsciiDigit (digit s i) then .ok (digit s i) else .error .digitOutOfRange
        else .ok b

/-- `MemWrite((9, 0), 3, ...)`: the three digits, written together (R64, R134). -/
def writeDigits (c : Config) (mem : List Host.Cell) (d0 d1 d2 : Byte) : List Host.Cell :=
  Memory.write c (Memory.write c (Memory.write c mem (msgAddr 9 0) d0) (msgAddr 9 1) d1) (msgAddr 9 2) d2

/-! ### The arithmetic of the estimator (R132 to R136) -/

/-- `n div d` by a configured divisor, truncating (R10, R135). The spec's divisors are never 0; for a configured 0 it states
no result, and the quotient is a free value (DESIGN CHOICE, log 20). -/
def quotient (n d : Nat) : Nat := if d = 0 then Config.divisionByZero n else n / d

/-- The distance of a pulse duration: product exact, division truncating (R132). -/
def distanceOf (c : Config) (d : Nat) : Nat := quotient (c.kNum * d) c.kDen

/-- `dist - off` for a distance below the offset, wrapping at 16 bits (R136). For an offset above `dist + 65536` the formula's
`dist + 65536 - off` goes below 0, no rule states a result, and the difference is a free value (DESIGN CHOICE, log 21). -/
def wrappedDifference (dist off : Nat) : Nat :=
  if off ≤ dist + 65536 then (dist + 65536 - off) % 65536 else Config.differencePastWrap dist off

/-- The LED period of a distance: R133 (`clamp`, saturating subtraction) or R136 (`wrap16`, the subtraction wrapping
at 16 bits for a distance below the offset). Products are exact, the division truncates. -/
def ledPeriodOf (c : Config) (dist : Nat) : Nat :=
  match c.ledLowPolicy with
  | .clamp => quotient ((dist - c.ledOff) * c.ledMul) c.ledDiv
  | .wrap16 =>
    if dist < c.ledOff then quotient (wrappedDifference dist c.ledOff * c.ledMul) c.ledDiv
    else quotient ((dist - c.ledOff) * c.ledMul) c.ledDiv

/-- The ASCII character of the decimal digit of weight `w` (R134): `0x30 + ((dist div w) mod 10)`. -/
def digitChar (dist w : Nat) : Byte := BitVec.ofNat 8 (0x30 + dist / w % 10)

end Sys2Proof.Machine
end

