-- ==== Sys2Proof/Machine/Flags.lean ====
section
/-! DEFINITION. The one-bit conditions the rules test and the marks they set. The block has no condition codes
(spec/10_state.md section 4): every flag is one of the registers of R32 to R37. -/

namespace Sys2Proof.Machine

/-- The value `TX_OVERRUN` takes in a `tx_write`: set if the transmitter is still `Sending`, sticky (R37, R161). -/
def overrunAfterWrite (s : State) : Bool := s.txOverrun || s.txState == .sending

/-- A period counter, already incremented, has reached its period: `>=`, unsigned, on the exact sum (R103 to R105, D4;
log 11). -/
def periodReached (count period : Nat) : Bool := decide (period ≤ count)

/-- `DISTANCE <= D_MIN`, inclusive (R105, R213). -/
def nearObstacle (s : State) : Bool := decide (s.distance.toNat ≤ s.cfg.dMin)

/-- The condition of the obstacle override (R213). -/
def overrideDue (s : State) : Bool := s.dir == .forward && nearObstacle s && !(s.lastCmd == opObst)

/-- The gate of the transmit-complete event: only while `Sending` (R162). -/
def txcEnabled (s : State) : Bool := s.txState == .sending

/-- The main loop has no enabled step: it is at `TURN_HOLD` with `HOLD_CNT > 0` (R194, R212). -/
def mainHeld (s : State) : Bool := s.mlPc == pcTurnHold && !(s.holdCnt == 0#16)

/-- `MAIN` is enabled in every other state (R212). -/
def mainEnabled (s : State) : Bool := !mainHeld s

end Sys2Proof.Machine
end

