-- ==== Sys2Proof/Machine/Ops.lean ====
section
/-! DEFINITION. The operations several rules share: `submit` (R151), `tx_write` (R161), moving `ML_PC` (R11), the
end of a step that may have faulted, taking the next event (R44), and placing an operation for the next step.

The block raises no exception (R230) and entering or leaving a handler saves and restores nothing (R237, R238), so there
is no exception entry and no return operation here: running a handler is applying its meaning to the state. -/

namespace Sys2Proof.Machine

/-- What one operation answers. -/
abbrev Result := Host.Outcome State Fault Refusal

/-- `ML_PC <- target` (R11). -/
def goTo (pc : Nibble) (s : State) : State := { s with mlPc := pc }

/-- `submit(c)` (R151): stored only while the mailbox is empty, otherwise lost without trace. -/
def submit (c : Byte) (s : State) : State :=
  if s.cmdPresent then s else { s with cmdCode := c, cmdPresent := true }

/-- `tx_write(b)` (R161): the overrun mark, the byte appended to `WIRE` with that mark, `TX_STATE <- Sending`, and
the ports `TX_DATA`, `TX_WRITE` (R43). -/
def txWrite (b : Byte) (s : State) : State :=
  { s with
    txOverrun := overrunAfterWrite s
    wire := s.wire ++ [⟨b, overrunAfterWrite s⟩]
    txState := .sending
    txData := b
    txStrobe := true }

/-- `CNT_MSG <- 0` (R103, R165). -/
def zeroResend (s : State) : State := { s with cntMsg := 0#16 }

/-- `CNT_MSG <- CNT_MSG + 1` (R103). -/
def countResend (s : State) : State := { s with cntMsg := s.cntMsg + 1#16 }

/-- `MSG_SEL <- m`, `CURSOR <- 0` (R165). -/
def selectMessage (m : Nibble) (s : State) : State := { s with msgSel := m, cursor := 0#8 }

/-- The byte in flight has gone out: `TX_STATE <- Idle`, and the cursor's new place (R163). -/
def byteSent (cur : Byte) (s : State) : State := { s with txState := .idle, cursor := cur }

/-- Choosing the message to select, and going on to `SEL` (the common end of R180 to R183 and R186 to R189). -/
def announce (m : Nibble) (s : State) : State := { s with tMsg := m, mlPc := pcSel }

/-- Starting a timed turn (R184, R185): the direction, the message for afterwards, the hold. -/
def startTurn (d : Direction) (m : Nibble) (s : State) : State :=
  { s with dir := d, tMsg := m, holdCnt := s.cfg.turnHoldTicks, mlPc := pcTurnHold }

/-- The answer of an operation that may meet a fault of U9 on its way. -/
def finish : Except Fault State → Result
  | .ok s => .next s
  | .error f => .fault f

/-- Lowering the strobe `TX_WRITE` before a step, so that it is 1 exactly after a step that performed a `tx_write`
(R43; DESIGN CHOICE, log 7). -/
def lowerStrobe (s : State) : State := { s with txStrobe := false }

/-- The next event and the state without it: the first one placed, or, where none is placed, the environment's free
choice (R44, R233, R236; log 1). -/
def fetchEvent (s : State) : EvtWord × State :=
  match s.due with
  | w :: rest => (w, { s with due := rest })
  | [] =>
    (evtWord (BitVec.ofNat 3 (Config.environment s.envCount).1.val) (Config.environment s.envCount).2,
      { s with envCount := s.envCount + 1 })

/-- The state in which the next step runs the operation of a word: an EVT word is placed first in `due`; an MLS word
is put in `ML_PC` and a CMD word in `T_CMD` with `ML_PC` at `EXEC`, and a `MAIN` event is placed, since these
run only when `MAIN` schedules the main loop (R191, R211; log 13). -/
def placeOp (x : OpWord) (s : State) : State :=
  match x with
  | .evt w => { s with due := w :: s.due }
  | .mls pc => { s with mlPc := pc, due := evtWord 4#3 0#8 :: s.due }
  | .cmd op => { s with tCmd := op, mlPc := pcExec, due := evtWord 4#3 0#8 :: s.due }

end Sys2Proof.Machine
end

