-- ==== Sys2Proof/Machine/EchoCapture.lean ====
section
/-! DEFINITION. Echo Capture (spec/42_echo_capture.md): the two halves of the `ECHO` handler (R120), told apart by
the level, with no filtering and no check that edges alternate (R123, R120). -/

namespace Sys2Proof.Machine

/-- `ECHO(1)` (R121): `PULSE` is zeroed unconditionally; the flag is not touched. -/
def execEchoRise (s : State) : Result := .next { s with pulse := 0#16 }

/-- `ECHO(0)` (R122): the capture is complete; `PULSE` is not read. -/
def execEchoFall (s : State) : Result := .next { s with echoReady := true }

end Sys2Proof.Machine
end

