-- ==== Sys2Proof/Machine/CommandMailbox.lean ====
section
/-! DEFINITION. The Command Mailbox (spec/44_command_mailbox.md): the receive handler and `take()`. -/

namespace Sys2Proof.Machine

/-- `RX(b)` (R150): every byte is submitted, unfiltered. -/
def execRx (b : Byte) (s : State) : Result := .next (submit b s)

/-- `POLL_CMD`, the document's `take()` (R152). `CMD_CODE` keeps its value. -/
def execPollCmd (s : State) : Result :=
  if s.cmdPresent then
    .next { s with tCmd := s.cmdCode, lastCmd := s.cmdCode, cmdPresent := false, mlPc := pcExec }
  else .next (goTo pcPollEcho s)

end Sys2Proof.Machine
end

