-- ==== Sys2Proof/Machine/DistanceEstimator.lean ====
section
/-! DEFINITION. The Distance Estimator (spec/43_distance_estimator.md): the five main-loop steps that consume a
completed capture. -/

namespace Sys2Proof.Machine

/-- `POLL_ECHO` (R130): test and clear in one step. -/
def execPollEcho (s : State) : Result :=
  if s.echoReady then .next { s with echoReady := false, mlPc := pcEstLoad }
  else .next (goTo pcPollObst s)

/-- `EST_LOAD` (R131): one whole read of `PULSE` as it is now. -/
def execEstLoad (s : State) : Result := .next { s with tD := s.pulse, mlPc := pcEstDist }

/-- `EST_DIST` (R132). -/
def execEstDist (s : State) : Result :=
  .next { s with distance := BitVec.ofNat 16 (distanceOf s.cfg s.tD.toNat), mlPc := pcEstLed }

/-- `EST_LED` (R133, R136). -/
def execEstLed (s : State) : Result :=
  .next { s with ledPeriod := BitVec.ofNat 32 (ledPeriodOf s.cfg s.distance.toNat), mlPc := pcEstFmt }

/-- `EST_FMT` (R134): hundreds, tens, units, written together. -/
def execEstFmt (s : State) : Result :=
  .next
    { s with
      mem :=
        writeDigits s.cfg s.mem (digitChar s.distance.toNat 100) (digitChar s.distance.toNat 10)
          (digitChar s.distance.toNat 1)
      mlPc := pcPollObst }

end Sys2Proof.Machine
end

