-- ==== Sys2Proof/Machine/MotionController.lean ====
section
/-! DEFINITION. The Motion Controller (spec/46_motion_controller.md): one definition per command, each the arm of the
step `EXEC` for its opcode (R180 to R190), then `EXEC` itself (R191), `TURN_HOLD` (R194) and `TURN_END` (R195). -/

namespace Sys2Proof.Machine

/-- `FWD` (R180). -/
def execFwd (s : State) : Result := .next (announce mFrente { s with dir := .forward })

/-- `BACK` (R181). -/
def execBack (s : State) : Result := .next (announce mTras { s with dir := .backward })

/-- `STOP` (R182). -/
def execStop (s : State) : Result := .next (announce mParado { s with dir := .stopped })

/-- `OBST` (R183). -/
def execObst (s : State) : Result := .next (announce mObstaculo { s with dir := .stopped })

/-- `CCW` (R184). -/
def execCcw (s : State) : Result := .next (startTurn .counterClockwiseTurn mAntiHorario s)

/-- `CW` (R185). -/
def execCw (s : State) : Result := .next (startTurn .clockwiseTurn mHorario s)

/-- `REPORT` (R186). -/
def execReport (s : State) : Result := .next (announce mDist s)

/-- `SPD70` (R187). -/
def execSpd70 (s : State) : Result := .next (announce mVel70 { s with dutyPct := .p70 })

/-- `SPD80` (R188). -/
def execSpd80 (s : State) : Result := .next (announce mVel80 { s with dutyPct := .p80 })

/-- `SPD100` (R189). -/
def execSpd100 (s : State) : Result := .next (announce mVel100 { s with dutyPct := .p100 })

/-- `UNKNOWN` (R84, R190): no register but `ML_PC` changes, whatever the byte. -/
def execUnknown (_op : Byte) (s : State) : Result := .next (goTo pcPollEcho s)

/-- `EXEC` (R191): the arm of the opcode in `T_CMD`, matched with mask 0xFF. -/
def execExec (s : State) : Result :=
  if s.tCmd = opFwd then execFwd s
  else if s.tCmd = opBack then execBack s
  else if s.tCmd = opStop then execStop s
  else if s.tCmd = opObst then execObst s
  else if s.tCmd = opCcw then execCcw s
  else if s.tCmd = opCw then execCw s
  else if s.tCmd = opReport then execReport s
  else if s.tCmd = opSpd70 then execSpd70 s
  else if s.tCmd = opSpd80 then execSpd80 s
  else if s.tCmd = opSpd100 then execSpd100 s
  else execUnknown s.tCmd s

/-- `TURN_HOLD` (R194), enabled only when `HOLD_CNT` = 0. While `HOLD_CNT > 0` the main loop is held: the busy-wait goes
on and nothing changes (DESIGN CHOICE, log 6). -/
def execTurnHold (s : State) : Result :=
  if s.holdCnt = 0#16 then .next (goTo pcTurnEnd s) else .next s

/-- `TURN_END` (R195). -/
def execTurnEnd (s : State) : Result := .next { s with dir := .stopped, mlPc := pcSel }

end Sys2Proof.Machine
end

