-- ==== Sys2Proof/Machine/StatusTransmitter.lean ====
section
/-! DEFINITION. The Status Transmitter (spec/45_status_transmitter.md): the transmit-complete handler and the
message-select step. -/

namespace Sys2Proof.Machine

/-- The body of the transmit-complete handler (R163): at the last byte the cursor goes back to 0 and nothing is sent;
otherwise the cursor advances and that byte is sent. -/
def txComplete (s : State) : Except Fault State :=
  match msgLen s s.msgSel with
  | .error f => .error f
  | .ok len =>
    if s.cursor.toNat + 1 = len then .ok (byteSent 0#8 s)
    else
      match memRead s s.msgSel (s.cursor.toNat + 1) with
      | .error f => .error f
      | .ok b => .ok (txWrite b (byteSent (s.cursor + 1#8) s))

/-- `TXC` (R163), enabled only while `TX_STATE` = `Sending` (R162). Offered in `Idle` it is not delivered, and an event
that is not delivered did not happen (R232; DESIGN CHOICE, log 5). -/
def execTxc (s : State) : Result :=
  if txcEnabled s then finish (txComplete s) else .next s

/-- `SEL` (R165): select message `T_MSG`, restart the transmitter and the resend cadence, in one step. -/
def execSel (s : State) : Result :=
  match memRead s s.tMsg 0 with
  | .error f => .fault f
  | .ok b => .next (goTo pcPollEcho (zeroResend (txWrite b (selectMessage s.tMsg s))))

end Sys2Proof.Machine
end

