-- ==== Sys2Proof/Machine/MainLoop.lean ====
section
/-! DEFINITION. The main-loop sequencer (spec/47_main_loop.md): the obstacle override and the event `MAIN`, which
executes the step `ML_PC` names. -/

namespace Sys2Proof.Machine

/-- `POLL_OBST` (R213): the obstacle code goes through the same `submit` the receiver uses. -/
def execPollObst (s : State) : Result :=
  if overrideDue s then .next (goTo pcPollCmd (submit opObst s)) else .next (goTo pcPollCmd s)

/-- `MAIN` (R211): the step whose number is in `ML_PC`; 11 to 15 are a fault (R30, U9). -/
def execMain (s : State) : Result :=
  match s.mlPc with
  | 0#4 => execPollEcho s
  | 1#4 => execEstLoad s
  | 2#4 => execEstDist s
  | 3#4 => execEstLed s
  | 4#4 => execEstFmt s
  | 5#4 => execPollObst s
  | 6#4 => execPollCmd s
  | 7#4 => execExec s
  | 8#4 => execTurnHold s
  | 9#4 => execTurnEnd s
  | 10#4 => execSel s
  | _ => .fault .reservedMainStep

end Sys2Proof.Machine
end

