-- ==== Sys2Proof/Machine/Reset.lean ====
section
/-! DEFINITION. Reset (spec/70_reset_and_hazards.md R260, R261; the values are spec/10_state.md R52). -/

namespace Sys2Proof.Machine

/-- `RESET` (R260): every register at its value of R52 and `WIRE` empty, in one step (R261). The configuration and the
environment's events are no registers of the block and stay (R20; DESIGN CHOICE, log 10); `TX_DATA` holds its value
(R11; log 7). `DUTY_PCT` takes the member of `DUTY_SET` that is 100 by default (DESIGN CHOICE, log 19). -/
def execReset (s : State) : Result :=
  .next
    { State.reset with
      cfg := s.cfg, due := s.due, envCount := s.envCount, txData := s.txData, txStrobe := s.txStrobe }

end Sys2Proof.Machine
end

