-- ==== Sys2Proof/Machine/TickScheduler.lean ====
section
/-! DEFINITION. The Tick Scheduler (spec/41_tick_scheduler.md): the `TICK` handler, its five actions in order, then the
hold timer (R193). -/

namespace Sys2Proof.Machine

/-- Action 1, pulse count (R101): frozen while a completed capture waits; wraps modulo 2^16. -/
def step1Pulse (s : State) : State :=
  if s.echoReady then s else { s with pulse := s.pulse + 1#16 }

/-- Action 2, trigger low, unconditionally (R102). -/
def step2TrigLow (s : State) : State := { s with trig := false }

/-- Action 3, message resend (R103): increment, then test; `CURSOR` is not written. -/
def step3Resend (s : State) : Except Fault State :=
  if periodReached (s.cntMsg.toNat + 1) s.cfg.pMsg then
    match memRead s s.msgSel 0 with
    | .ok b => .ok (zeroResend (txWrite b s))
    | .error f => .error f
  else .ok (countResend s)

/-- Action 4, trigger pulse (R104). -/
def step4Trigger (s : State) : State :=
  if periodReached (s.cntTrig.toNat + 1) s.cfg.pTrig then { s with trig := true, cntTrig := 0#16 }
  else { s with cntTrig := s.cntTrig + 1#16 }

/-- Action 5, LED blink (R105): at the period, forced on near an obstacle, otherwise toggled. -/
def step5Led (s : State) : State :=
  if periodReached (s.cntLed.toNat + 1) s.ledPeriod.toNat then
    { s with led := if nearObstacle s then true else !s.led, cntLed := 0#32 }
  else { s with cntLed := s.cntLed + 1#32 }

/-- The hold timer (R193): decrement, never below 0. -/
def holdTimer (s : State) : State :=
  if s.holdCnt = 0#16 then s else { s with holdCnt := s.holdCnt - 1#16 }

/-- `TICK` (R100). -/
def execTick (s : State) : Result :=
  match step3Resend (step2TrigLow (step1Pulse s)) with
  | .ok t => .next (holdTimer (step5Led (step4Trigger t)))
  | .error f => .fault f

end Sys2Proof.Machine
end

