-- ==== Sys2Proof/Machine/Dispatch.lean ====
section
/-! DEFINITION. One arm per operation of spec/opcode_table.json. -/

namespace Sys2Proof.Machine

def exec (i : Instr) (s : State) : Host.Outcome State Fault Refusal :=
  match i with
  -- commands (R180 to R190)
  | .fwd => Sys2Proof.Machine.execFwd s
  | .back => Sys2Proof.Machine.execBack s
  | .stop => Sys2Proof.Machine.execStop s
  | .obst => Sys2Proof.Machine.execObst s
  | .ccw => Sys2Proof.Machine.execCcw s
  | .cw => Sys2Proof.Machine.execCw s
  | .report => Sys2Proof.Machine.execReport s
  | .spd70 => Sys2Proof.Machine.execSpd70 s
  | .spd80 => Sys2Proof.Machine.execSpd80 s
  | .spd100 => Sys2Proof.Machine.execSpd100 s
  | .unknown op => Sys2Proof.Machine.execUnknown op s
  -- events (R100, R120 to R122, R150, R163, R211, R260)
  | .tick => Sys2Proof.Machine.execTick s
  | .echoRise => Sys2Proof.Machine.execEchoRise s
  | .echoFall => Sys2Proof.Machine.execEchoFall s
  | .rx b => Sys2Proof.Machine.execRx b s
  | .txc => Sys2Proof.Machine.execTxc s
  | .main => Sys2Proof.Machine.execMain s
  | .reset => Sys2Proof.Machine.execReset s
  -- main-loop steps (R130 to R134, R213, R152, R191, R194, R195, R165)
  | .pollEcho => Sys2Proof.Machine.execPollEcho s
  | .estLoad => Sys2Proof.Machine.execEstLoad s
  | .estDist => Sys2Proof.Machine.execEstDist s
  | .estLed => Sys2Proof.Machine.execEstLed s
  | .estFmt => Sys2Proof.Machine.execEstFmt s
  | .pollObst => Sys2Proof.Machine.execPollObst s
  | .pollCmd => Sys2Proof.Machine.execPollCmd s
  | .exec => Sys2Proof.Machine.execExec s
  | .turnHold => Sys2Proof.Machine.execTurnHold s
  | .turnEnd => Sys2Proof.Machine.execTurnEnd s
  | .sel => Sys2Proof.Machine.execSel s

end Sys2Proof.Machine
end

