-- ==== Sys2Proof/Machine/Step.lean ====
section
/-! DEFINITION. One step of the block (spec/00_scope.md R12): take the next event, run it as one atomic step. -/

namespace Sys2Proof.Machine

/-- One step: the next event word is decoded and its operation runs; a reserved word is refused (R87). -/
def step (s : State) : Host.Outcome State Fault Refusal :=
  match decodeEvt (fetchEvent s).1 with
  | .ok i => exec i (lowerStrobe (fetchEvent s).2)
  | .error _ => .refused .reservedEvent

/-- The state in which the next step runs the operation of a table word (log 13). -/
def State.withFetchWord (s : State) (nbits w : Nat) : State := placeOp (tableWord nbits w) s

end Sys2Proof.Machine
end

