-- ==== Sys2Proof/Machine/Trace.lean ====
section
/-! DEFINITION. The trace notation of spec/30_encoding.md R91 and its pseudo-operations (R92), as runs of operations
over the block's state. -/

namespace Sys2Proof.Machine

/-- Operations executed one after another, each as one step; the run ends at the first fault or refusal (R12, R71). -/
def deliver : List Instr → State → Result
  | [], s => .next s
  | i :: rest, s =>
    match exec i (lowerStrobe s) with
    | .next t => deliver rest t
    | .fault f => .fault f
    | .refused r => .refused r

/-- `TICK*n` (R92). -/
def ticks (n : Nat) : List Instr := List.replicate n .tick

/-- `MAIN*n` (R92). -/
def mains (n : Nat) : List Instr := List.replicate n .main

/-- `PING(n)` (R92): an echo pulse `n` ticks long. -/
def ping (n : Nat) : List Instr := .echoRise :: (ticks n ++ [.echoFall])

/-- `MAIN` repeated until `ML_PC` is `POLL_ECHO` again, at most `fuel` times; where the fuel runs out first, the state
reached by then (DESIGN CHOICE, log 17). -/
def loopFor : Nat → State → Result
  | 0, s => .next s
  | fuel + 1, s =>
    match exec .main (lowerStrobe s) with
    | .next t => if t.mlPc = pcPollEcho then .next t else loopFor fuel t
    | .fault f => .fault f
    | .refused r => .refused r

/-- `LOOP` (R92): an iteration takes at most 11 steps (R211). R92 defines it only when `HOLD_CNT` = 0 or no turn command is
taken. In the other case, where the main loop is still held at `TURN_HOLD` when the 11 `MAIN` events are used up, the
answer is the state they leave, held: the model's choice (DESIGN CHOICE, log 17). -/
def loop (s : State) : Result := loopFor 11 s

/-- `TXC` repeated until `TX_STATE` = `Idle`, at most `fuel` times. -/
def drainFor : Nat → State → Result
  | 0, s => .next s
  | fuel + 1, s =>
    match s.txState with
    | .idle => .next s
    | .sending =>
      match exec .txc (lowerStrobe s) with
      | .next t => drainFor fuel t
      | .fault f => .fault f
      | .refused r => .refused r

/-- `DRAIN` (R92): a message has at most 256 bytes, so 256 completions always reach `Idle`. -/
def drain (s : State) : Result := drainFor 256 s

/-- The EVT word of an event operation, as a program places it in `due`. -/
def eventWord (i : Instr) : EvtWord :=
  match encode i with
  | .evt w => w
  | .cmd _ => 0#11
  | .mls _ => 0#11

/-- A program of events placed before whatever is placed already (R91). -/
def State.withEvents (es : List Instr) (s : State) : State := { s with due := es.map eventWord ++ s.due }

end Sys2Proof.Machine
end

