-- ==== Sys2Proof/Safety.lean ====
section
/-! DEFINITION. What the claims speak of: the invariants of spec/10_state.md R47, the states reachable from reset, the
ownership of R46, and the named environment premises of spec/60_exceptions.md R233. -/

namespace Sys2Proof.Machine

/-! ### The invariants of R47 -/

/-- `LEN(m)`, 0 where there is no message `m` (R63). -/
def rowLen (c : Config) (m : Nibble) : Nat := ((c.msgRom[m.toNat]?).getD []).length

/-- The largest `LED_PERIOD` a distance up to 56196 gives (R26, R136). -/
def maxLedPeriod (c : Config) : Nat :=
  match c.ledLowPolicy with
  | .clamp => 3745400
  | .wrap16 => 4369000

/-- The parameters are such that the bounds of R47 hold: the document's constants (R8) and the shape of a message table
(R63). The newline termination is not needed for them. -/
abbrev State.cfgOk (s : State) : Prop := s.cfg.documentConstants ∧ s.cfg.romShape

/-- `CNT_MSG < P_MSG`, `CNT_TRIG < P_TRIG`, `CNT_LED` below the largest period, `HOLD_CNT <= TURN_HOLD_TICKS` (R47). -/
abbrev State.countersOk (s : State) : Prop :=
  s.cntMsg.toNat < s.cfg.pMsg ∧ s.cntTrig.toNat < s.cfg.pTrig ∧ s.cntLed.toNat < maxLedPeriod s.cfg ∧
    s.holdCnt.toNat ≤ s.cfg.turnHoldTicks.toNat

/-- The ranges of the identifiers and of the derived values (R47); `T_MSG` is here because `SEL` copies it to
`MSG_SEL`. The ranges of `DIR` and `DUTY_PCT` hold by their types. -/
abbrev State.rangesOk (s : State) : Prop :=
  s.mlPc.toNat ≤ 10 ∧ s.msgSel.toNat < 10 ∧ s.tMsg.toNat < 10 ∧ s.cursor.toNat < rowLen s.cfg s.msgSel ∧
    s.distance.toNat ≤ 56196 ∧ s.ledPeriod.toNat ≤ maxLedPeriod s.cfg

/-- The message space: canonical form, and each digit an ASCII digit (R27, R47). -/
abbrev State.memOk (s : State) : Prop :=
  Memory.wf s.cfg s.mem = true ∧ isAsciiDigit (digit s 0) = true ∧ isAsciiDigit (digit s 1) = true ∧
    isAsciiDigit (digit s 2) = true

/-- R47's clause on `LAST_CMD`, strengthened to every step so that it is inductive (`90_conflicts.md` C13): between
`POLL_CMD` and `EXEC` the code taken is in both registers; elsewhere, moving forward means the last command was not
the obstacle code. -/
abbrev State.lastCmdOk (s : State) : Prop :=
  (s.mlPc = pcExec → s.tCmd = s.lastCmd) ∧ (s.mlPc ≠ pcExec → s.dir = .forward → s.lastCmd ≠ opObst)

/-- The invariant of the block (R47). -/
abbrev State.Inv (s : State) : Prop :=
  s.cfgOk ∧ s.countersOk ∧ s.rangesOk ∧ s.memOk ∧ s.lastCmdOk

/-- The state after reset under a configuration, with a program of events placed (log 1, 2). -/
def State.resetWith (c : Config) (events : List EvtWord) : State :=
  { State.reset with cfg := c, due := events }

/-- The states a run from reset passes through, under any configuration R8 and R63 allow and for any events placed; where
none is placed the environment chooses. -/
inductive Reachable : State → Prop where
  | reset (c : Config) (events : List EvtWord) (hc : c.documentConstants) (hr : c.romOk) :
    Reachable (State.resetWith c events)
  | step (s t : State) (hs : Reachable s) (ht : Machine.step s = .next t) : Reachable t

/-! ### Ownership (R46) -/

/-- The registers that only main-loop steps write (R46, last row), and the message space, are the same in both states. -/
abbrev sameMainOwned (s t : State) : Prop :=
  t.distance = s.distance ∧ t.ledPeriod = s.ledPeriod ∧ t.mem = s.mem ∧ t.tD = s.tD ∧ t.tCmd = s.tCmd ∧
    t.tMsg = s.tMsg ∧ t.lastCmd = s.lastCmd ∧ t.dir = s.dir ∧ t.dutyPct = s.dutyPct ∧ t.msgSel = s.msgSel ∧
    t.mlPc = s.mlPc

/-- The registers that only interrupt context writes (R46) are the same in both states. -/
abbrev sameInterruptOwned (s t : State) : Prop :=
  t.cntTrig = s.cntTrig ∧ t.cntLed = s.cntLed ∧ t.led = s.led ∧ t.trig = s.trig ∧ t.pulse = s.pulse

/-- The command rows, by which `EXEC` acts (R191). -/
def Instr.isCommand (i : Instr) : Bool := i.format == .cmd

/-! ### The named premises of R233

None is enforced by the machine; a claim may take any of them. They speak of the sequence of events a run receives and,
for the three that need it, of the states before each event. -/

/-- P-ALT over a finite sequence: the levels of its `ECHO` events alternate, starting with 1 after reset; `expect` is the
level due next, and `RESET` sets it back to 1. -/
def PAlt : Bool → List Instr → Bool
  | _, [] => true
  | expect, .echoRise :: rest => expect && PAlt false rest
  | expect, .echoFall :: rest => !expect && PAlt true rest
  | _, .reset :: rest => PAlt true rest
  | expect, _ :: rest => PAlt expect rest

/-- P-NOOVR: no byte has been handed to a busy transmitter. -/
abbrev PNoOvr (s : State) : Prop := s.txOverrun = false

/-- P-TICK over an endless sequence: ticks keep coming. -/
def PTick (events : Nat → Instr) : Prop := ∀ n, ∃ k, n ≤ k ∧ events k = .tick

/-- P-TXC: while the transmitter is `Sending` a completion follows, delivered while it is still `Sending` (R162); a `TXC`
offered in `Idle` did not happen (R232, log 5) and does not count. R233 does not say whether a byte whose transmission
`RESET` cuts off still needs its `TXC`, which could not be delivered: here `RESET` ends the demand (DESIGN CHOICE, log 18). -/
def PTxc (states : Nat → State) (events : Nat → Instr) : Prop :=
  ∀ n, (states n).txState = .sending →
    ∃ k, n ≤ k ∧ ((events k = .txc ∧ (states k).txState = .sending) ∨ events k = .reset)

/-- P-MAIN: weak fairness of the main loop (R212). -/
def PMain (states : Nat → State) (events : Nat → Instr) : Prop :=
  ∀ n, (∀ k, n ≤ k → mainEnabled (states k) = true) → ∃ k, n ≤ k ∧ events k = .main

/-- P-POLL: between the end of one echo pulse and the start of the next the main loop completes an iteration, from
`POLL_ECHO` back to `POLL_ECHO`. An iteration that `RESET` cuts off is not completed; R233 does not speak of a `RESET` between
the two pulses, and the premise asks for the iteration there too (DESIGN CHOICE, log 18). -/
def PPoll (states : Nat → State) (events : Nat → Instr) : Prop :=
  ∀ i j, i < j → events i = .echoFall → events j = .echoRise →
    ∃ a b, i < a ∧ a < b ∧ b ≤ j ∧ (states a).mlPc = pcPollEcho ∧ events a = .main ∧ (states b).mlPc = pcPollEcho ∧
      ∀ k, a ≤ k → k < b → events k ≠ .reset

end Sys2Proof.Machine
end

