-- ==== Sys2Proof/Certificates/Slice0/Obligations.lean ====
section
/-! DEFINITION. The statements about the block, each after the numbered rules of spec/ its docstring names. A statement
about a free parameter or a placed event holds for every value of it. -/

open Sys2Proof Sys2Proof.Machine

/-! ### Encodings (30_encoding.md) -/

/-- R83, R87, R90: the words of the three tables decode to the operations they stand for. The payload of `TICK`, `TXC`,
`MAIN`, `RESET` is ignored; `ev` 6 and 7 and `pc` 11 to 15 are rejected by name. -/
def Obligations.TableWordsDecode : Prop :=
  (decode (.cmd 0x77#8) = .ok .fwd ∧ decode (.cmd 0x73#8) = .ok .back ∧ decode (.cmd 0x71#8) = .ok .stop ∧
    decode (.cmd 0x58#8) = .ok .obst ∧ decode (.cmd 0x61#8) = .ok .ccw ∧ decode (.cmd 0x64#8) = .ok .cw ∧
    decode (.cmd 0x65#8) = .ok .report ∧ decode (.cmd 0x37#8) = .ok .spd70 ∧ decode (.cmd 0x38#8) = .ok .spd80 ∧
    decode (.cmd 0x30#8) = .ok .spd100) ∧
  (∀ arg : Byte,
    decode (.evt (0b000#3 ++ arg)) = .ok .tick ∧
    decode (.evt (0b001#3 ++ arg)) = .ok (if arg.toNat % 2 = 1 then .echoRise else .echoFall) ∧
    decode (.evt (0b010#3 ++ arg)) = .ok (.rx arg) ∧ decode (.evt (0b011#3 ++ arg)) = .ok .txc ∧
    decode (.evt (0b100#3 ++ arg)) = .ok .main ∧ decode (.evt (0b101#3 ++ arg)) = .ok .reset ∧
    decode (.evt (0b110#3 ++ arg)) = .error .reservedEvent ∧
    decode (.evt (0b111#3 ++ arg)) = .error .reservedEvent) ∧
  (decode (.mls 0#4) = .ok .pollEcho ∧ decode (.mls 1#4) = .ok .estLoad ∧ decode (.mls 2#4) = .ok .estDist ∧
    decode (.mls 3#4) = .ok .estLed ∧ decode (.mls 4#4) = .ok .estFmt ∧ decode (.mls 5#4) = .ok .pollObst ∧
    decode (.mls 6#4) = .ok .pollCmd ∧ decode (.mls 7#4) = .ok .exec ∧ decode (.mls 8#4) = .ok .turnHold ∧
    decode (.mls 9#4) = .ok .turnEnd ∧ decode (.mls 10#4) = .ok .sel ∧
    ∀ pc : Nibble, 11 ≤ pc.toNat → decode (.mls pc) = .error .reservedMainStep)

/-- Decoding the word the encoder writes for a well-formed operation gives the operation back, with every operand at
every value. -/
def Obligations.DecodingAnEncodedOperationGivesItBack : Prop :=
  ∀ i : Instr, i.wellFormed = true → decode (encode i) = .ok i

/-- R80, R81: a word that decodes gives a well-formed operation of its own decode space, and encoding it gives the word
again: whole for CMD, MLS and `RX` words, up to the ignored payload bits for the other EVT words. -/
def Obligations.EncodingADecodedWordGivesItBack : Prop :=
  ∀ (x : OpWord) (i : Instr), decode x = .ok i →
    i.wellFormed = true ∧ i.format = x.format ∧ decode (encode i) = .ok i ∧
    (∀ op, x = .cmd op → encode i = x) ∧ (∀ pc, x = .mls pc → encode i = x) ∧
    (∀ w : EvtWord, x = .evt w → ∃ w' : EvtWord, encode i = .evt w' ∧ w'.toNat / 256 = w.toNat / 256 ∧
      (w.toNat / 256 = 2 → w' = w) ∧ (w.toNat / 256 = 1 → w'.toNat % 2 = w.toNat % 2))

/-- R84: every byte decodes to an operation, and exactly the 246 bytes that are no command decode to `UNKNOWN`. -/
def Obligations.ExactlyTheOther246BytesAreUnknown : Prop :=
  (∀ b : Byte, decode (.cmd b) = .ok (.unknown b) ↔
    b ∉ [0x77#8, 0x73#8, 0x71#8, 0x58#8, 0x61#8, 0x64#8, 0x65#8, 0x37#8, 0x38#8, 0x30#8]) ∧
  (∀ b : Byte, ∃ i, decode (.cmd b) = .ok i ∧ i.format = .cmd ∧ (∀ op, i = .unknown op → op = b)) ∧
  ((List.range 256).filter fun n => decide (decode (.cmd (BitVec.ofNat 8 n)) = .ok (.unknown (BitVec.ofNat 8 n)))).length
    = 246

/-! ### Steps and the sequencer (00_scope.md R12, 47_main_loop.md) -/

/-- A step with an event placed runs the operation the event's word decodes to, on the state without that event and
with the strobe lowered (the model's own part of a step, log 1 and 7); a placed word with `ev` 6 or 7 is refused (R87). -/
def Obligations.StepRunsThePlacedEvent : Prop :=
  ∀ (s : State) (w : EvtWord) (rest : List EvtWord), s.due = w :: rest →
    (∀ i, decode (.evt w) = .ok i → step s = exec i { s with due := rest, txStrobe := false }) ∧
    (6 ≤ w.toNat / 256 → step s = .refused .reservedEvent)

/-- A step with nothing placed runs some event, whatever the environment's free choice is: never a refusal. The free choice
and its counter (log 1) and the strobe lowered before the operation (log 7) are the model's choices. -/
def Obligations.StepWithNothingPlacedRunsSomeEvent : Prop :=
  ∀ s : State, s.due = [] → ∃ i : Instr, i.format = .evt ∧ i.wellFormed = true ∧
    step s = exec i { s with envCount := s.envCount + 1, txStrobe := false }

/-- Placing a program of events and stepping once per event is executing its operations in order (R71, R91). The placing,
`due` and `State.withEvents`, is the model's form of loading events (DESIGN CHOICE, log 1). -/
def Obligations.PlacedProgramRunsInOrder : Prop :=
  ∀ (es : List Instr) (s : State), (∀ i ∈ es, i.format = .evt) →
    Sys2Proof.core.run es.length (s.withEvents es) = deliver es s

/-- R211, R191: `MAIN` is the operation `ML_PC` decodes to, and `EXEC` is the operation `T_CMD` decodes to; a step number
11 to 15 is a fault (R30, U9). -/
def Obligations.MainAndExecRunWhatTheirRegisterNames : Prop :=
  (∀ (s : State) (i : Instr), decode (.mls s.mlPc) = .ok i → exec .main s = exec i s) ∧
  (∀ (s : State) (i : Instr), decode (.cmd s.tCmd) = .ok i → exec .exec s = exec i s) ∧
  (∀ s : State, 11 ≤ s.mlPc.toNat → exec .main s = .fault .reservedMainStep)

/-- R211: `MAIN` completes at every step number (`SEL` where the first byte of its message can be read) and sets `ML_PC`
to the successor of the table, which is the whole of the loop's control flow. At `TURN_HOLD` with `HOLD_CNT > 0` `MAIN` is
not enabled (R194, R212); that it answers a next state there is the model's choice (log 6), and no successor is stated. -/
def Obligations.MainLoopSuccessors : Prop :=
  ∀ s : State, s.mlPc.toNat ≤ 10 → (s.mlPc = 10#4 → ∃ b, memRead s s.tMsg 0 = .ok b) →
    ∃ t, exec .main s = .next t ∧
    (s.mlPc = 0#4 → t.mlPc = if s.echoReady then 1#4 else 5#4) ∧ (s.mlPc = 1#4 → t.mlPc = 2#4) ∧
    (s.mlPc = 2#4 → t.mlPc = 3#4) ∧ (s.mlPc = 3#4 → t.mlPc = 4#4) ∧ (s.mlPc = 4#4 → t.mlPc = 5#4) ∧
    (s.mlPc = 5#4 → t.mlPc = 6#4) ∧ (s.mlPc = 6#4 → t.mlPc = if s.cmdPresent then 7#4 else 0#4) ∧
    (s.mlPc = 7#4 → t.mlPc =
      if s.tCmd ∈ [0x77#8, 0x73#8, 0x71#8, 0x58#8, 0x65#8, 0x37#8, 0x38#8, 0x30#8] then 10#4
      else if s.tCmd ∈ [0x61#8, 0x64#8] then 8#4 else 0#4) ∧
    (s.mlPc = 8#4 → s.holdCnt = 0#16 → t.mlPc = 9#4) ∧ (s.mlPc = 9#4 → t.mlPc = 10#4) ∧
    (s.mlPc = 10#4 → t.mlPc = 0#4)

/-- R211: one iteration from `POLL_ECHO` back to it takes 3 to 11 `MAIN` steps, where no turn hold is waited for (R92's own
condition: no turn command waits, or its hold is 0): 3 with neither capture nor command, 11 with a capture and a turn
command. Holds above 0 ticks and events between the steps are left
to `TurnHoldsThenStopsThenAnnounces` and `TurnHoldStallsThePolling`. -/
def Obligations.AnIterationTakesThreeToElevenSteps : Prop :=
  ∀ s : State, s.Inv → s.mlPc = 0#4 →
    (s.cmdPresent = true → s.cmdCode = 0x61#8 ∨ s.cmdCode = 0x64#8 → s.cfg.turnHoldTicks = 0#16) →
    ∃ n, 3 ≤ n ∧ n ≤ 11 ∧ (∃ t, deliver (mains n) s = .next t ∧ t.mlPc = 0#4) ∧
      (∀ k u, 0 < k → k < n → deliver (mains k) s = .next u → u.mlPc ≠ 0#4) ∧
      (s.echoReady = false → s.cmdPresent = false → (s.dir = .forward → 25 < s.distance.toNat) → n = 3) ∧
      (s.echoReady = true → s.cmdPresent = true → s.cmdCode = 0x61#8 ∨ s.cmdCode = 0x64#8 → n = 11)

/-! ### The Tick Scheduler (41_tick_scheduler.md) -/

/-- R100: `TICK` completes whenever no resend is due or byte 0 of the selected message can be read, and it writes
nothing but the registers R100 lists (with the ports of its `tx_write`). -/
def Obligations.TickCompletesAndWritesNothingElse : Prop :=
  ∀ s : State, (s.cntMsg.toNat + 1 < s.cfg.pMsg ∨ ∃ b, memRead s s.msgSel 0 = .ok b) →
    ∃ t, exec .tick s = .next t ∧
      t = { s with
        pulse := t.pulse, trig := t.trig, cntMsg := t.cntMsg, cntTrig := t.cntTrig, cntLed := t.cntLed, led := t.led
        holdCnt := t.holdCnt, txState := t.txState, txOverrun := t.txOverrun, wire := t.wire, txData := t.txData
        txStrobe := t.txStrobe }

/-- R101, R193: the pulse count is frozen exactly while a completed capture waits and wraps modulo 2^16; the hold timer
counts down to 0 and stays. -/
def Obligations.TickCountsThePulseAndTheHold : Prop :=
  ∀ s t : State, exec .tick s = .next t →
    (s.echoReady = true → t.pulse = s.pulse) ∧
    (s.echoReady = false → t.pulse.toNat = (s.pulse.toNat + 1) % 65536) ∧
    (s.holdCnt.toNat = 0 → t.holdCnt = s.holdCnt) ∧ (0 < s.holdCnt.toNat → t.holdCnt.toNat = s.holdCnt.toNat - 1)

/-- R102, R104: at the period the trigger is raised and its counter zeroed; on every other tick the trigger is low and
the counter goes up by one. -/
def Obligations.TickDrivesTheTrigger : Prop :=
  ∀ s t : State, s.cfg.pTrig ≤ 65535 → exec .tick s = .next t →
    (s.cfg.pTrig ≤ s.cntTrig.toNat + 1 → t.trig = true ∧ t.cntTrig = 0#16) ∧
    (s.cntTrig.toNat + 1 < s.cfg.pTrig → t.trig = false ∧ t.cntTrig.toNat = s.cntTrig.toNat + 1)

/-- R103: at the period byte 0 of the selected message is handed to the transmitter and the counter zeroed, the cursor
untouched; on every other tick the counter goes up by one and the transmitter is left alone. -/
def Obligations.TickResendsTheFirstByte : Prop :=
  ∀ s : State, s.cfg.pMsg ≤ 65535 →
    (∀ t, s.cntMsg.toNat + 1 < s.cfg.pMsg → exec .tick s = .next t →
      t.cntMsg.toNat = s.cntMsg.toNat + 1 ∧ t.wire = s.wire ∧ t.txState = s.txState ∧ t.txOverrun = s.txOverrun ∧
      t.txData = s.txData ∧ t.txStrobe = s.txStrobe) ∧
    (∀ b, s.cfg.pMsg ≤ s.cntMsg.toNat + 1 → memRead s s.msgSel 0 = .ok b →
      ∃ t, exec .tick s = .next t ∧ t.cntMsg = 0#16 ∧ t.cursor = s.cursor ∧ t.txState = .sending ∧
        t.txOverrun = (s.txOverrun || decide (s.txState = .sending)) ∧ t.wire = s.wire ++ [⟨b, t.txOverrun⟩] ∧
        t.txData = b ∧ t.txStrobe = true)

/-- R105: at the period the LED is forced on at or below `D_MIN` and toggled above it; on every other tick it holds. -/
def Obligations.TickBlinksTheLed : Prop :=
  ∀ s t : State, exec .tick s = .next t →
    (s.ledPeriod.toNat ≤ s.cntLed.toNat + 1 →
      t.cntLed = 0#32 ∧ (s.distance.toNat ≤ s.cfg.dMin → t.led = true) ∧
      (s.cfg.dMin < s.distance.toNat → t.led = !s.led)) ∧
    (s.cntLed.toNat + 1 < s.ledPeriod.toNat → t.led = s.led ∧ t.cntLed.toNat = s.cntLed.toNat + 1)

/-- R104, R106: whatever else happens after reset, the trigger counter is the number of ticks modulo 4000; after a tick the
trigger is 1 exactly when that number is a positive multiple of 4000, and every other event leaves it as it was. It rests on
the reset values of `CNT_TRIG` and `TRIG` (R52, the spec's own choice; log 15). -/
def Obligations.TriggerIsOneTickInEvery4000 : Prop :=
  ∀ (c : Config) (es : List Instr) (s : State), c.documentConstants → (∀ i ∈ es, i ≠ .reset) →
    deliver es (State.resetWith c []) = .next s →
    s.cntTrig.toNat = es.count .tick % 4000 ∧
    (s.trig = true ↔ 0 < es.count .tick ∧ es.count .tick % 4000 = 0)

/-- R107: the three timing domains are independent. What one tick does to each domain depends on that domain's own
registers alone: two states that agree on them agree on the outcome. -/
def Obligations.TimingDomainsAreIndependent : Prop :=
  ∀ s s' t t' : State, s.cfg = s'.cfg → exec .tick s = .next t → exec .tick s' = .next t' →
    (s.cntMsg = s'.cntMsg → t.cntMsg = t'.cntMsg) ∧
    (s.cntTrig = s'.cntTrig → t.cntTrig = t'.cntTrig ∧ t.trig = t'.trig) ∧
    (s.cntLed = s'.cntLed → s.ledPeriod = s'.ledPeriod → s.distance = s'.distance → s.led = s'.led →
      t.cntLed = t'.cntLed ∧ t.led = t'.led)

/-! ### Echo Capture (42_echo_capture.md) -/

/-- R121, R122: a rising edge zeroes `PULSE` and touches nothing else, not even a set flag; a falling edge sets the flag and
touches nothing else. -/
def Obligations.EchoEdges : Prop :=
  ∀ s : State, exec .echoRise s = .next { s with pulse := 0#16 } ∧
    exec .echoFall s = .next { s with echoReady := true }

/-- R101, R121, R122: an echo pulse is measured in ticks, modulo 2^16, whatever other events fall into it; then the count
is frozen under the flag until the main loop takes it or another rising edge comes. -/
def Obligations.EchoPulseIsMeasuredInTicks : Prop :=
  ∀ (during after : List Instr) (s t : State),
    (∀ i ∈ during, i.format = .evt ∧ i ≠ .echoRise ∧ i ≠ .echoFall ∧ i ≠ .reset) →
    (∀ i ∈ after, i.context = .interrupt ∧ i ≠ .echoRise) → s.echoReady = false →
    deliver (.echoRise :: (during ++ .echoFall :: after)) s = .next t →
    t.pulse.toNat = during.count .tick % 65536 ∧ t.echoReady = true

/-- R123: with no falling edge no capture completes, and the distance, the LED period and the report keep their values,
whatever else happens between two resets. -/
def Obligations.NoFallingEdgeNoNewDistance : Prop :=
  ∀ (es : List Instr) (s t : State), (∀ i ∈ es, i.format = .evt ∧ i ≠ .echoFall ∧ i ≠ .reset) →
    s.echoReady = false → ¬ (1 ≤ s.mlPc.toNat ∧ s.mlPc.toNat ≤ 4) → deliver es s = .next t →
    t.echoReady = false ∧ t.distance = s.distance ∧ t.ledPeriod = s.ledPeriod ∧ t.mem = s.mem

/-! ### The Distance Estimator (43_distance_estimator.md) -/

/-- R130: test and clear in one step. -/
def Obligations.PollEchoTestsAndClears : Prop :=
  ∀ s : State, exec .pollEcho s =
    .next (if s.echoReady then { s with echoReady := false, mlPc := 1#4 } else { s with mlPc := 5#4 })

/-- R131: `T_D <- PULSE`, the value `PULSE` holds now. -/
def Obligations.EstLoadReadsThePulse : Prop :=
  ∀ s : State, exec .estLoad s = .next { s with tD := s.pulse, mlPc := 2#4 }

/-- R132: `DISTANCE <- (343 * T_D * 50) div 20000`, exact for every 16-bit `T_D`: the product stays below 2^32 and the
result is at most 56196. -/
def Obligations.EstDistIsTheTruncatedFormula : Prop :=
  ∀ s : State, s.cfg.documentConstants →
    ∃ t, exec .estDist s = .next t ∧ t = { s with distance := t.distance, mlPc := 3#4 } ∧
      t.distance.toNat = 343 * s.tD.toNat * 50 / 20000 ∧ 343 * s.tD.toNat * 50 ≤ 1123925250 ∧
      t.distance.toNat ≤ 56196

/-- R133 (policy `clamp`): the period is the document's formula from 15 cm on and 0 below. -/
def Obligations.EstLedClampsBelow15 : Prop :=
  ∀ s : State, s.cfg.documentConstants → s.cfg.ledLowPolicy = .clamp →
    ∃ t, exec .estLed s = .next t ∧ t = { s with ledPeriod := t.ledPeriod, mlPc := 4#4 } ∧
      (15 ≤ s.distance.toNat → t.ledPeriod.toNat = (s.distance.toNat - 15) * 200 / 3) ∧
      (s.distance.toNat < 15 → t.ledPeriod.toNat = 0) ∧
      (s.distance.toNat ≤ 56196 → t.ledPeriod.toNat ≤ 3745400)

/-- R136 (policy `wrap16`): below 15 cm the subtraction wraps at 16 bits; from 15 cm on nothing changes. -/
def Obligations.EstLedWrapsUnderWrap16 : Prop :=
  ∀ s : State, s.cfg.documentConstants → s.cfg.ledLowPolicy = .wrap16 →
    ∃ t, exec .estLed s = .next t ∧ t = { s with ledPeriod := t.ledPeriod, mlPc := 4#4 } ∧
      (15 ≤ s.distance.toNat → t.ledPeriod.toNat = (s.distance.toNat - 15) * 200 / 3) ∧
      (s.distance.toNat < 15 →
        t.ledPeriod.toNat = ((s.distance.toNat + 65536 - 15) % 65536) * 200 / 3 ∧ 4368066 ≤ t.ledPeriod.toNat ∧
        t.ledPeriod.toNat ≤ 4369000)

/-- R134: the three low decimal digits as ASCII characters, written in one step; every other byte of the message space
reads as before, through `MemRead` and through the model's read of one address of the space. For `DISTANCE` of 1000 or more
the low three digits are the spec's own decision (D6), and U4 refuses a claim on the report's text without
`DISTANCE <= 999`. -/
def Obligations.EstFmtWritesTheThreeDigits : Prop :=
  ∀ s : State, ∃ t, exec .estFmt s = .next t ∧ t = { s with mem := t.mem, mlPc := 5#4 } ∧
    (digit t 0).toNat = 0x30 + s.distance.toNat / 100 % 10 ∧ (digit t 1).toNat = 0x30 + s.distance.toNat / 10 % 10 ∧
    (digit t 2).toNat = 0x30 + s.distance.toNat % 10 ∧
    (∀ m i, ¬ (m.toNat = 9 ∧ i < 3) → memRead t m i = memRead s m i) ∧
    (∀ a, ¬ (a = msgAddr 9 0 ∨ a = msgAddr 9 1 ∨ a = msgAddr 9 2) →
      Memory.read t.cfg t.mem a = Memory.read s.cfg s.mem a)

/-- R137: with no event between the five steps a waiting capture of duration `d` leaves the distance, the LED period and
the digits of `d`, the flag clear, and touches nothing else but the temporary `T_D`, `ML_PC` and the strobe `TX_WRITE`, which
every step lowers (the model's choice, log 7), every other byte of the message space reading as before; the distance is
non-decreasing in `d`, and at most 25 exactly when `d <= 30`. The digits of a distance of 1000 or more are the spec's
decision D6 (U4). -/
def Obligations.EstimatorIsAFunctionOfThePulse : Prop :=
  (∀ s : State, s.cfg.documentConstants → s.cfg.ledLowPolicy = .clamp → s.mlPc = 0#4 → s.echoReady = true →
    ∃ t, deliver (mains 5) s = .next t ∧
      t = { s with
        distance := t.distance, ledPeriod := t.ledPeriod, mem := t.mem, echoReady := false, tD := s.pulse, mlPc := 5#4
        txStrobe := false } ∧
      t.distance.toNat = 17150 * s.pulse.toNat / 20000 ∧ t.ledPeriod.toNat = (t.distance.toNat - 15) * 200 / 3 ∧
      (digit t 0).toNat = 0x30 + t.distance.toNat / 100 % 10 ∧ (digit t 1).toNat = 0x30 + t.distance.toNat / 10 % 10 ∧
      (digit t 2).toNat = 0x30 + t.distance.toNat % 10 ∧
      ∀ a, ¬ (a = msgAddr 9 0 ∨ a = msgAddr 9 1 ∨ a = msgAddr 9 2) →
        Memory.read t.cfg t.mem a = Memory.read s.cfg s.mem a) ∧
  (∀ c : Config, c.documentConstants → ∀ d d' : Nat,
    (d ≤ d' → distanceOf c d ≤ distanceOf c d') ∧ (distanceOf c d ≤ 25 ↔ d ≤ 30))

/-- R270 (b): ticks that fall between `POLL_ECHO` and `EST_LOAD` are added to the value the estimator reads, modulo
2^16. -/
def Obligations.TicksBeforeTheLoadInflateTheReading : Prop :=
  ∀ (k : Nat) (s t : State), s.mlPc = 0#4 → s.echoReady = true →
    deliver ([.main] ++ ticks k ++ [.main]) s = .next t → t.tD.toNat = (s.pulse.toNat + k) % 65536 ∧ t.mlPc = 2#4

/-! ### The Command Mailbox (44_command_mailbox.md) -/

/-- R150, R151: a received byte, whatever it is, is stored while the mailbox is empty and lost without trace while it is
full. -/
def Obligations.ReceivedByteIsKeptOnlyWhileEmpty : Prop :=
  ∀ (b : Byte) (s : State), exec (.rx b) s =
    .next (if s.cmdPresent then s else { s with cmdCode := b, cmdPresent := true })

/-- R151: two submits with no take between leave the mailbox as the first one left it, also with other interrupts
between them. -/
def Obligations.SecondSubmitIsLost : Prop :=
  ∀ (b c : Byte) (es : List Instr) (s u t : State), (∀ i ∈ es, i.context = .interrupt) →
    exec (.rx b) s = .next u → deliver (es ++ [.rx c]) u = .next t →
    t.cmdPresent = true ∧ t.cmdCode = (if s.cmdPresent then s.cmdCode else b)

/-- R152: `take()`. -/
def Obligations.PollCmdTakes : Prop :=
  ∀ s : State, exec .pollCmd s =
    .next (if s.cmdPresent then
      { s with tCmd := s.cmdCode, lastCmd := s.cmdCode, cmdPresent := false, mlPc := 7#4 }
    else { s with mlPc := 0#4 })

/-- R153 (a): no operation but reset changes `CMD_CODE` unless the mailbox was empty, and then only together with
`CMD_PRESENT` becoming 1; and only taking it clears `CMD_PRESENT`. -/
def Obligations.MailboxCodeChangesOnlyWhileEmpty : Prop :=
  ∀ (i : Instr) (s t : State), i ≠ .reset → exec i s = .next t →
    (t.cmdCode ≠ s.cmdCode → s.cmdPresent = false ∧ t.cmdPresent = true) ∧
    (s.cmdPresent = true → t.cmdPresent = false →
      (i = .pollCmd ∨ i = .main) ∧ t.tCmd = s.cmdCode ∧ t.lastCmd = s.cmdCode)

/-! ### The Status Transmitter (45_status_transmitter.md) -/

/-- R163: at the last byte the cursor returns to 0 and the transmitter goes idle; otherwise the cursor advances and that
byte of the selected message is sent, with no overrun. Nothing else changes. -/
def Obligations.TxcAdvancesOrEnds : Prop :=
  ∀ (s : State) (len : Nat), s.txState = .sending → msgLen s s.msgSel = .ok len →
    (s.cursor.toNat + 1 = len → exec .txc s = .next { s with txState := .idle, cursor := 0#8 }) ∧
    (∀ b, s.cursor.toNat + 1 ≠ len → memRead s s.msgSel (s.cursor.toNat + 1) = .ok b →
      exec .txc s = .next { s with
        txState := .sending, cursor := s.cursor + 1#8, wire := s.wire ++ [⟨b, s.txOverrun⟩], txData := b
        txStrobe := true })

/-- R165: `SEL` selects `T_MSG`, zeroes the cursor and the resend counter and sends byte 0, in one step. -/
def Obligations.SelRestartsTheTransmitter : Prop :=
  ∀ (s : State) (b : Byte), memRead s s.tMsg 0 = .ok b →
    exec .sel s = .next { s with
      msgSel := s.tMsg, cursor := 0#8, cntMsg := 0#16, mlPc := 0#4
      txOverrun := s.txOverrun || decide (s.txState = .sending)
      wire := s.wire ++ [⟨b, s.txOverrun || decide (s.txState = .sending)⟩]
      txState := .sending, txData := b, txStrobe := true }

/-- R164: an undisturbed transmission started with byte 0 takes exactly `LEN(m)` completions: `WIRE` grows by the rest of
the message in order, and the transmitter is idle with the cursor at 0 only after the last one. -/
def Obligations.CompleteTransmission : Prop :=
  ∀ (s : State) (bytes : List Byte), s.txState = .sending → s.cursor = 0#8 → s.cfg.romShape → s.msgSel.toNat < 10 →
    msgLen s s.msgSel = .ok bytes.length → (∀ i (h : i < bytes.length), memRead s s.msgSel i = .ok bytes[i]) →
    (∃ t, deliver (List.replicate bytes.length .txc) s = .next t ∧ t.txState = .idle ∧ t.cursor = 0#8 ∧
      t.wire = s.wire ++ bytes.tail.map (fun b => ⟨b, s.txOverrun⟩) ∧ t.txOverrun = s.txOverrun ∧
      t.msgSel = s.msgSel) ∧
    (∀ k, k < bytes.length → ∃ u, deliver (List.replicate k .txc) s = .next u ∧ u.txState = .sending ∧
      u.cursor.toNat = k)

/-- R37, R161: the overrun mark is sticky, and only a byte handed to a transmitter that is still `Sending` sets it. -/
def Obligations.OverrunIsStickyAndMeansABusyTransmitter : Prop :=
  ∀ (i : Instr) (s t : State), i ≠ .reset → exec i s = .next t →
    (s.txOverrun = true → t.txOverrun = true) ∧
    (s.txOverrun = false → t.txOverrun = true →
      s.txState = .sending ∧ i ≠ .txc ∧ ∃ b, t.wire = s.wire ++ [⟨b, true⟩])

/-- R45: `WIRE` is only ever extended, by at most one byte a step, marked with `TX_OVERRUN` as it is after the write,
which the port `TX_DATA` carries and after which the transmitter is `Sending`. -/
def Obligations.WireGrowsByMarkedBytes : Prop :=
  ∀ (i : Instr) (s t : State), i ≠ .reset → exec i s = .next t →
    (t.wire = s.wire ∧ t.txData = s.txData) ∨
      (∃ b, t.wire = s.wire ++ [⟨b, t.txOverrun⟩] ∧ t.txData = b ∧ t.txState = .sending)

/-- The strobe `TX_WRITE` is 1 exactly after a step that performed a `tx_write` (the model's choice, log 7). -/
def Obligations.StrobeMarksTheStepsThatWrite : Prop :=
  ∀ s t : State, step s = .next t → (t.txStrobe = true ↔ t.wire.length = s.wire.length + 1)

/-! ### The Motion Controller (46_motion_controller.md) -/

/-- R191: `EXEC` performs the arm of the opcode in `T_CMD`, and nothing but the registers of that arm's row changes. -/
def Obligations.ExecPerformsTheArmOfTheOpcode : Prop :=
  ∀ s : State,
    (s.tCmd = 0x77#8 → exec .exec s = .next { s with dir := .forward, tMsg := 0#4, mlPc := 10#4 }) ∧
    (s.tCmd = 0x73#8 → exec .exec s = .next { s with dir := .backward, tMsg := 2#4, mlPc := 10#4 }) ∧
    (s.tCmd = 0x71#8 → exec .exec s = .next { s with dir := .stopped, tMsg := 5#4, mlPc := 10#4 }) ∧
    (s.tCmd = 0x58#8 → exec .exec s = .next { s with dir := .stopped, tMsg := 1#4, mlPc := 10#4 }) ∧
    (s.tCmd = 0x61#8 → exec .exec s = .next { s with
      dir := .counterClockwiseTurn, tMsg := 3#4, holdCnt := s.cfg.turnHoldTicks, mlPc := 8#4 }) ∧
    (s.tCmd = 0x64#8 → exec .exec s = .next { s with
      dir := .clockwiseTurn, tMsg := 4#4, holdCnt := s.cfg.turnHoldTicks, mlPc := 8#4 }) ∧
    (s.tCmd = 0x65#8 → exec .exec s = .next { s with tMsg := 9#4, mlPc := 10#4 }) ∧
    (s.tCmd = 0x37#8 → exec .exec s = .next { s with dutyPct := .p70, tMsg := 6#4, mlPc := 10#4 }) ∧
    (s.tCmd = 0x38#8 → exec .exec s = .next { s with dutyPct := .p80, tMsg := 7#4, mlPc := 10#4 }) ∧
    (s.tCmd = 0x30#8 → exec .exec s = .next { s with dutyPct := .p100, tMsg := 8#4, mlPc := 10#4 }) ∧
    (s.tCmd ∉ [0x77#8, 0x73#8, 0x71#8, 0x58#8, 0x61#8, 0x64#8, 0x65#8, 0x37#8, 0x38#8, 0x30#8] →
      exec .exec s = .next { s with mlPc := 0#4 })

/-- R180 to R190: the command rows one by one, with their frames; the unknown row for every byte. -/
def Obligations.CommandArms : Prop :=
  ∀ s : State,
    exec .fwd s = .next { s with dir := .forward, tMsg := 0#4, mlPc := 10#4 } ∧
    exec .back s = .next { s with dir := .backward, tMsg := 2#4, mlPc := 10#4 } ∧
    exec .stop s = .next { s with dir := .stopped, tMsg := 5#4, mlPc := 10#4 } ∧
    exec .obst s = .next { s with dir := .stopped, tMsg := 1#4, mlPc := 10#4 } ∧
    exec .ccw s = .next { s with
      dir := .counterClockwiseTurn, tMsg := 3#4, holdCnt := s.cfg.turnHoldTicks, mlPc := 8#4 } ∧
    exec .cw s = .next { s with
      dir := .clockwiseTurn, tMsg := 4#4, holdCnt := s.cfg.turnHoldTicks, mlPc := 8#4 } ∧
    exec .report s = .next { s with tMsg := 9#4, mlPc := 10#4 } ∧
    exec .spd70 s = .next { s with dutyPct := .p70, tMsg := 6#4, mlPc := 10#4 } ∧
    exec .spd80 s = .next { s with dutyPct := .p80, tMsg := 7#4, mlPc := 10#4 } ∧
    exec .spd100 s = .next { s with dutyPct := .p100, tMsg := 8#4, mlPc := 10#4 } ∧
    ∀ op, exec (.unknown op) s = .next { s with mlPc := 0#4 }

/-- R180 to R183 and R186 to R189: the eight commands without a hold, from `EXEC` to the end of `SEL`: direction or duty,
message selected, cursor and resend counter zeroed, byte 0 of the message on the wire, the main loop at its start; the
other of direction and duty unchanged. -/
def Obligations.CommandThenSelectAnnouncesIt : Prop :=
  ∀ row ∈ ([(.fwd, some .forward, none, 0#4), (.back, some .backward, none, 2#4), (.stop, some .stopped, none, 5#4),
      (.obst, some .stopped, none, 1#4), (.report, none, none, 9#4), (.spd70, none, some .p70, 6#4),
      (.spd80, none, some .p80, 7#4), (.spd100, none, some .p100, 8#4)] :
      List (Instr × Option Direction × Option DutyPct × Nibble)),
    ∀ (s : State) (b : Byte), memRead s row.2.2.2 0 = .ok b →
      ∃ t, deliver [row.1, .sel] s = .next t ∧ t.dir = row.2.1.getD s.dir ∧ t.dutyPct = row.2.2.1.getD s.dutyPct ∧
        t.msgSel = row.2.2.2 ∧ t.cursor = 0#8 ∧ t.cntMsg = 0#16 ∧ t.mlPc = 0#4 ∧ t.txState = .sending ∧
        t.wire = s.wire ++ [⟨b, t.txOverrun⟩] ∧ t.holdCnt = s.holdCnt ∧ t.lastCmd = s.lastCmd

/-- R197: a non-turn command sent twice in a row gives the same motion state and selects the same message again, which a
fresh first byte shows. -/
def Obligations.RepeatedCommandIsIdempotent : Prop :=
  ∀ c ∈ [Instr.fwd, .back, .stop, .obst, .report, .spd70, .spd80, .spd100],
    ∀ s t u : State, deliver [c, .sel] s = .next t → deliver [c, .sel] t = .next u →
      u.dir = t.dir ∧ u.dutyPct = t.dutyPct ∧ u.msgSel = t.msgSel ∧ u.cursor = 0#8 ∧ u.cntMsg = 0#16 ∧
      u.holdCnt = t.holdCnt ∧ u.led = t.led ∧ u.trig = t.trig ∧ u.cntTrig = t.cntTrig ∧ u.cntLed = t.cntLed ∧
      ∃ b, memRead t t.msgSel 0 = .ok b ∧ u.wire = t.wire ++ [⟨b, true⟩]

/-- R194, R195: `TURN_HOLD` goes on when the hold has run out, and only then is the main loop enabled at it; `TURN_END`
stops. -/
def Obligations.TurnHoldEndsAndTurnEndStops : Prop :=
  (∀ s : State, s.holdCnt = 0#16 → exec .turnHold s = .next { s with mlPc := 9#4 }) ∧
  (∀ s : State, s.mlPc = 8#4 → (mainEnabled s = true ↔ s.holdCnt = 0#16)) ∧
  (∀ s : State, exec .turnEnd s = .next { s with dir := .stopped, mlPc := 10#4 })

/-- R162, R194, R212: `TXC` is not enabled in `Idle`, and the main loop at `TURN_HOLD` with `HOLD_CNT > 0` has no enabled
step. What an operation offered then does is the model's choice (log 5 and 6): nothing changes. -/
def Obligations.DisabledOperationsChangeNothing : Prop :=
  (∀ s : State, s.txState = .idle → txcEnabled s = false ∧ exec .txc s = .next s) ∧
  (∀ s : State, s.holdCnt ≠ 0#16 →
    exec .turnHold s = .next s ∧ (s.mlPc = 8#4 → mainEnabled s = false ∧ exec .main s = .next s)) ∧
  (∀ s : State, s.mlPc ≠ 8#4 ∨ s.holdCnt = 0#16 → mainEnabled s = true)

/-- R184, R185: a turn command asserts its direction, holds it for `TURN_HOLD_TICKS` ticks, whatever that number is, then
returns to Stopped and selects its message. -/
def Obligations.TurnHoldsThenStopsThenAnnounces : Prop :=
  ∀ row ∈ ([(.ccw, .counterClockwiseTurn, 3#4), (.cw, .clockwiseTurn, 4#4)] : List (Instr × Direction × Nibble)),
    ∀ (s : State) (b b' : Byte), memRead s s.msgSel 0 = .ok b → memRead s row.2.2 0 = .ok b' →
      (∀ k, k ≤ s.cfg.turnHoldTicks.toNat → ∃ u, deliver (row.1 :: ticks k) s = .next u ∧ u.dir = row.2.1 ∧
        u.mlPc = 8#4 ∧ u.holdCnt.toNat = s.cfg.turnHoldTicks.toNat - k ∧
        (mainEnabled u = true ↔ k = s.cfg.turnHoldTicks.toNat)) ∧
      (∃ t, deliver (row.1 :: ticks s.cfg.turnHoldTicks.toNat ++ mains 3) s = .next t ∧ t.dir = .stopped ∧
        t.msgSel = row.2.2 ∧ t.cursor = 0#8 ∧ t.cntMsg = 0#16 ∧ t.mlPc = 0#4 ∧ t.dutyPct = s.dutyPct ∧
        ∃ mark, t.wire.getLast? = some ⟨b', mark⟩)

/-- R198: while the hold lasts no capture is consumed, no obstacle examined and no command taken, whatever events come:
the main loop's registers stay, a waiting capture stays waiting and a waiting command stays the same. That a `MAIN` offered
meanwhile changes nothing is the model's choice (log 6). -/
def Obligations.TurnHoldStallsThePolling : Prop :=
  ∀ (es : List Instr) (s t : State), (∀ i ∈ es, i.format = .evt ∧ i ≠ .reset) → s.mlPc = 8#4 →
    es.count .tick < s.holdCnt.toNat → deliver es s = .next t →
    sameMainOwned s t ∧ (s.echoReady = true → t.echoReady = true) ∧
    (s.cmdPresent = true → t.cmdPresent = true ∧ t.cmdCode = s.cmdCode) ∧
    t.holdCnt.toNat = s.holdCnt.toNat - es.count .tick

/-- R43, R196: the direction port is `DIR`; each duty port is the selected percentage minus that wheel's bias, without
underflow, for every bias and every `DUTY_SET` that R43 allows, the document's 70, 80, 100 among them; and no command
writes both registers. -/
def Obligations.OutputStage : Prop :=
  (∀ s : State, (dirOut s).toNat = (match s.dir with
      | .stopped => 0 | .forward => 1 | .backward => 2 | .clockwiseTurn => 3 | .counterClockwiseTurn => 4) ∧
    (s.cfg.dutySet = DutySet.default →
      (duty0 s).toNat + s.cfg.bias0.val = (match s.dutyPct with | .p70 => 70 | .p80 => 80 | .p100 => 100) ∧
      (duty1 s).toNat + s.cfg.bias1.val = (match s.dutyPct with | .p70 => 70 | .p80 => 80 | .p100 => 100)) ∧
    (s.cfg.dutyOk →
      (duty0 s).toNat + s.cfg.bias0.val = s.dutyPct.percent s.cfg.dutySet ∧
      (duty1 s).toNat + s.cfg.bias1.val = s.dutyPct.percent s.cfg.dutySet)) ∧
  (∀ (i : Instr) (s t : State), i.format = .cmd → exec i s = .next t → t.dir = s.dir ∨ t.dutyPct = s.dutyPct)

/-! ### The obstacle override (47_main_loop.md R213) -/

/-- R213: the obstacle code is submitted exactly when moving forward at or below the threshold and the last command was
not the obstacle code; a full mailbox drops it. -/
def Obligations.PollObstSubmitsTheObstacleCode : Prop :=
  ∀ s : State,
    (s.dir = .forward ∧ s.distance.toNat ≤ s.cfg.dMin ∧ s.lastCmd ≠ 0x58#8 → s.cmdPresent = false →
      exec .pollObst s = .next { s with cmdCode := 0x58#8, cmdPresent := true, mlPc := 6#4 }) ∧
    (¬ (s.dir = .forward ∧ s.distance.toNat ≤ s.cfg.dMin ∧ s.lastCmd ≠ 0x58#8) ∨ s.cmdPresent = true →
      exec .pollObst s = .next { s with mlPc := 6#4 })

/-- R213 corner case (a), the document's obstacle scenario: forward at or below the threshold with an empty mailbox, the
same iteration stops and announces the obstacle, and the iteration after it does nothing but lower the strobe `TX_WRITE` (the
model's choice, log 7): the command is synthesized exactly once. -/
def Obligations.ObstacleStopsInTheSameIterationOnce : Prop :=
  ∀ (s : State) (b : Byte), s.mlPc = 5#4 → s.dir = .forward → s.distance.toNat ≤ s.cfg.dMin → s.lastCmd ≠ 0x58#8 →
    s.cmdPresent = false → s.echoReady = false → memRead s 1#4 0 = .ok b →
    ∃ t, deliver (mains 4) s = .next t ∧ t.dir = .stopped ∧ t.msgSel = 1#4 ∧ t.lastCmd = 0x58#8 ∧
      t.cmdPresent = false ∧ t.mlPc = 0#4 ∧ t.wire = s.wire ++ [⟨b, t.txOverrun⟩] ∧
      deliver (mains 3) t = .next { t with txStrobe := false }

/-! ### The whole machine -/

/-- R52, R260: reset puts every register at its value, in one step, from every state. R52 calls all the values the spec's own
choice (D16; log 15); that under a replaced `DUTY_SET` the duty ports follow the member `'0'` selects is the model's
(log 19). -/
def Obligations.ResetPutsEveryRegisterAtItsValue : Prop :=
  ∀ s : State, ∃ t, exec .reset s = .next t ∧
    t.cntMsg = 0#16 ∧ t.cntTrig = 0#16 ∧ t.cntLed = 0#32 ∧ t.pulse = 0#16 ∧ t.echoReady = false ∧ t.distance = 0#16 ∧
    t.ledPeriod = 0#32 ∧ (s.cfg.romShape → digit t 0 = 0x30#8 ∧ digit t 1 = 0x30#8 ∧ digit t 2 = 0x30#8) ∧
    t.holdCnt = 0#16 ∧ t.tD = 0#16 ∧ t.tCmd = 0#8 ∧ t.tMsg = 0#4 ∧ t.mlPc = 0#4 ∧ t.cursor = 0#8 ∧
    t.cmdPresent = false ∧ t.cmdCode = 0x00#8 ∧ t.lastCmd = 0x00#8 ∧ t.led = false ∧ t.trig = false ∧
    t.txState = .idle ∧ t.txOverrun = false ∧ t.dir = .stopped ∧ t.dutyPct = .p100 ∧ t.msgSel = 5#4 ∧ t.wire = [] ∧
    dirOut t = 0#3 ∧ (duty0 t).toNat = s.cfg.dutySet.spd100.toNat - s.cfg.bias0.val ∧
    (duty1 t).toNat = s.cfg.dutySet.spd100.toNat - s.cfg.bias1.val ∧
    (s.cfg.dutySet = DutySet.default →
      (duty0 t).toNat = 100 - s.cfg.bias0.val ∧ (duty1 t).toNat = 100 - s.cfg.bias1.val)

/-- R47: the invariant holds after reset (values of R52, log 15), under every configuration R8 and R63 allow, and in
`State.reset`. -/
def Obligations.InvariantHoldsAfterReset : Prop :=
  State.reset.Inv ∧
  ∀ (c : Config) (events : List EvtWord), c.documentConstants → c.romShape → (State.resetWith c events).Inv

/-- R47: every step keeps the invariant: counters below their periods, the cursor inside the selected message, the
identifiers and derived values in their ranges, the digits ASCII digits, memory in canonical form, and the clause on
`LAST_CMD`. -/
def Obligations.EveryStepKeepsTheInvariant : Prop :=
  ∀ s t : State, s.Inv → step s = .next t → t.Inv

/-- R47: what holds in every state reachable from reset (values of R52, log 15), for every configuration the spec allows and
every choice of events; `DUTY_PCT` is a member of `DUTY_SET`, and the message table stays an allowed one (R85). -/
def Obligations.ReachableStatesMeetR47 : Prop :=
  ∀ s : State, Reachable s →
    s.cntMsg.toNat < s.cfg.pMsg ∧ s.cntTrig.toNat < s.cfg.pTrig ∧ s.cursor.toNat < rowLen s.cfg s.msgSel ∧
    (dirOut s).toNat ≤ 4 ∧ s.msgSel.toNat ≤ 9 ∧ s.mlPc.toNat ≤ 10 ∧ s.distance.toNat ≤ 56196 ∧
    (s.cfg.ledLowPolicy = .clamp → s.ledPeriod.toNat ≤ 3745400 ∧ s.cntLed.toNat ≤ 3745399) ∧
    (s.cfg.ledLowPolicy = .wrap16 → s.ledPeriod.toNat ≤ 4369000 ∧ s.cntLed.toNat ≤ 4368999) ∧
    (∀ i, i < 3 → 0x30 ≤ (digit s i).toNat ∧ (digit s i).toNat ≤ 0x39) ∧
    (s.mlPc = 5#4 → s.dir = .forward → s.lastCmd ≠ 0x58#8) ∧ s.holdCnt.toNat ≤ s.cfg.turnHoldTicks.toNat ∧
    (s.cfg.dutySet = DutySet.default → s.dutyPct.percent s.cfg.dutySet ∈ [70, 80, 100]) ∧ s.cfg.romOk

/-- R230: the block raises no exception. From every state that meets the invariant a step answers a next state, unless a
reserved event word has been placed. That a `TXC` offered in `Idle` and a `MAIN` offered in a turn hold answer a next state is
the model's choice (log 5, 6), as is the placing of events (log 1). -/
def Obligations.NoStepFaultsUnderTheInvariant : Prop :=
  ∀ s : State, s.Inv → (∀ w ∈ s.due.head?, w.toNat / 256 < 6) → ∃ t, step s = .next t

/-- R46: the ownership table. A register that differs after an operation is one the table lets that operation write;
`MAIN` writes through the step it executes, and reset writes all. -/
def Obligations.OnlyOwnersWrite : Prop :=
  ∀ (i : Instr) (s t : State), i ≠ .main → i ≠ .reset → exec i s = .next t →
    (t.cntMsg ≠ s.cntMsg → i = .tick ∨ i = .sel) ∧
    (t.cntTrig ≠ s.cntTrig ∨ t.cntLed ≠ s.cntLed ∨ t.led ≠ s.led ∨ t.trig ≠ s.trig → i = .tick) ∧
    (t.pulse ≠ s.pulse → i = .tick ∨ i = .echoRise) ∧
    (t.echoReady ≠ s.echoReady → (i = .echoFall ∧ t.echoReady = true) ∨ (i = .pollEcho ∧ t.echoReady = false)) ∧
    (t.cmdCode ≠ s.cmdCode → s.cmdPresent = false ∧ ((∃ b, i = .rx b) ∨ i = .pollObst)) ∧
    (t.cmdPresent ≠ s.cmdPresent →
      (s.cmdPresent = false ∧ ((∃ b, i = .rx b) ∨ i = .pollObst)) ∨ (s.cmdPresent = true ∧ i = .pollCmd)) ∧
    (t.cursor ≠ s.cursor → i = .txc ∨ i = .sel) ∧
    (t.holdCnt ≠ s.holdCnt → i = .tick ∨ i = .exec ∨ i = .ccw ∨ i = .cw) ∧
    (t.txState ≠ s.txState ∨ t.txOverrun ≠ s.txOverrun ∨ t.wire ≠ s.wire → i = .tick ∨ i = .txc ∨ i = .sel) ∧
    (t.distance ≠ s.distance → i = .estDist) ∧ (t.ledPeriod ≠ s.ledPeriod → i = .estLed) ∧
    (t.mem ≠ s.mem → i = .estFmt) ∧ (t.tD ≠ s.tD → i = .estLoad) ∧
    (t.tCmd ≠ s.tCmd ∨ t.lastCmd ≠ s.lastCmd → i = .pollCmd) ∧
    (t.tMsg ≠ s.tMsg ∨ t.dutyPct ≠ s.dutyPct → i = .exec ∨ i.format = .cmd) ∧
    (t.dir ≠ s.dir → i = .exec ∨ i = .turnEnd ∨ i.format = .cmd) ∧ (t.msgSel ≠ s.msgSel → i = .sel) ∧
    (t.mlPc ≠ s.mlPc → i.context = .mainLoop)

/-- R46, R214: a handler leaves the position of the main loop, its temporaries and every register only the main loop owns
unchanged, and a main-loop step, `MAIN` included, leaves every register only interrupt context owns unchanged. -/
def Obligations.ContextsKeepToTheirOwnRegisters : Prop :=
  ∀ (i : Instr) (s t : State), exec i s = .next t →
    (i.context = .interrupt → sameMainOwned s t) ∧ (i.context = .mainLoop → sameInterruptOwned s t)

/-- R62, R64, R75: no operation but `EST_FMT` (also through `MAIN`) and reset changes what any byte of the message space
reads as; and `EST_FMT` keeps memory in canonical form like every other. -/
def Obligations.MessageSpaceIsWrittenByEstFmtOnly : Prop :=
  ∀ (i : Instr) (s t : State), exec i s = .next t →
    (i ≠ .reset → i ≠ .estFmt → ¬ (i = .main ∧ s.mlPc = 4#4) → ∀ m k, memRead t m k = memRead s m k) ∧
    (Memory.wf s.cfg s.mem = true → Memory.wf t.cfg t.mem = true)

/-- R20: the configuration is fixed for a run, and no operation, reset included, touches the events placed for delivery
(the model's own fields, log 1, 2, 10). -/
def Obligations.ConfigurationAndPlacedEventsStay : Prop :=
  ∀ (i : Instr) (s t : State), exec i s = .next t → t.cfg = s.cfg ∧ t.due = s.due ∧ t.envCount = s.envCount

/-- R62: a read of the message space is a byte exactly at an address of the space; anywhere else it is the fault of U9. That a
digit which is no ASCII digit is a fault is U9's, and that the fault comes at the read is the model's (log 14). -/
def Obligations.MessageReadsAreInsideTheSpace : Prop :=
  ∀ (s : State) (m : Nibble) (k : Nat), s.cfg.romShape →
    (m.toNat < 9 → k < rowLen s.cfg m →
      ∃ row b, s.cfg.msgRom[m.toNat]? = some row ∧ row[k]? = some b ∧ memRead s m k = .ok b) ∧
    (m = 9#4 → k < 3 → isAsciiDigit (digit s k) = true → memRead s m k = .ok (digit s k)) ∧
    (m = 9#4 → k < 3 → isAsciiDigit (digit s k) = false → memRead s m k = .error .digitOutOfRange) ∧
    (memRead s 9#4 3 = .ok 0x63#8 ∧ memRead s 9#4 4 = .ok 0x6D#8 ∧ memRead s 9#4 5 = .ok 0x0A#8) ∧
    (10 ≤ m.toNat ∨ rowLen s.cfg m ≤ k → memRead s m k = .error .messageOutOfRange)

/-- R85: under every message table the spec allows, the last byte of every message is the line feed, and `TXC` ends a message
only with `CURSOR` at that line feed: the byte at `CURSOR` reads 0x0A, and nothing more is sent. This speaks of the
message and the cursor, not of the line: after a resend into a running stream (R279) the byte last handed over need
not be the one at `CURSOR` (U3). That a replacement table ends its messages in the line feed is C10's (log 16). -/
def Obligations.EveryMessageEndsInALineFeed : Prop :=
  ∀ s : State, s.cfg.romOk →
    (∀ m : Nibble, m.toNat < 10 → memRead s m (rowLen s.cfg m - 1) = .ok 0x0A#8) ∧
    (∀ t, s.msgSel.toNat < 10 → s.txState = .sending → exec .txc s = .next t → t.txState = .idle →
      t.wire = s.wire ∧ t.cursor = 0#8 ∧ memRead s s.msgSel s.cursor.toNat = .ok 0x0A#8)
end

