-- ==== Sys2Proof/Laws/Memory.lean ====
section
/-! SUPPORT. The laws of the message space: read after write, a write leaves every other address alone, and every
memory operation keeps the canonical form (spec/20_memory.md R62, R64). -/

namespace Sys2Proof.Machine

theorem Memory.lookup_erase_self (mem : List Host.Cell) (a : Nat) : Memory.lookup (Memory.erase mem a) a = none := by
  induction mem with
  | nil => rfl
  | cons cell rest ih =>
    obtain ⟨k, v⟩ := cell
    by_cases h : k = a <;> simp [Memory.erase, Memory.lookup, h, ih]

theorem Memory.lookup_erase_other (mem : List Host.Cell) {a x : Nat} (h : x ≠ a) :
    Memory.lookup (Memory.erase mem a) x = Memory.lookup mem x := by
  induction mem with
  | nil => rfl
  | cons cell rest ih =>
    obtain ⟨k, v⟩ := cell
    by_cases hk : k = a
    · subst hk; simp [Memory.erase, Memory.lookup, ih, Ne.symm h]
    · simp only [Memory.erase, hk, if_false, Memory.lookup, ih]

theorem Memory.lookup_insert_self (mem : List Host.Cell) (a : Nat) (b : Byte) (h : Memory.lookup mem a = none) :
    Memory.lookup (Memory.insert mem a b) a = some b := by
  induction mem with
  | nil => simp [Memory.insert, Memory.lookup]
  | cons cell rest ih =>
    obtain ⟨k, v⟩ := cell
    have hk : k ≠ a := by rintro rfl; simp [Memory.lookup] at h
    have hr : Memory.lookup rest a = none := by simpa [Memory.lookup, hk] using h
    by_cases hlt : a < k <;> simp [Memory.insert, Memory.lookup, hlt, hk, ih hr]

theorem Memory.lookup_insert_other (mem : List Host.Cell) {a x : Nat} (b : Byte) (h : x ≠ a) :
    Memory.lookup (Memory.insert mem a b) x = Memory.lookup mem x := by
  induction mem with
  | nil => simp [Memory.insert, Memory.lookup, Ne.symm h]
  | cons cell rest ih =>
    obtain ⟨k, v⟩ := cell
    by_cases hlt : a < k
    · simp only [Memory.insert, hlt, if_true, Memory.lookup, Ne.symm h, if_false]
    · simp only [Memory.insert, hlt, if_false, Memory.lookup, ih]

/-- A byte written is the byte read. -/
theorem Memory.read_write_self (c : Config) (mem : List Host.Cell) (a : Nat) (b : Byte) :
    Memory.read c (Memory.write c mem a b) a = some b := by
  unfold Memory.write
  split
  · next h => simp [Memory.read, Memory.lookup_erase_self, h]
  · simp [Memory.read, Memory.lookup_insert_self _ _ _ (Memory.lookup_erase_self mem a)]

/-- A write leaves every other address alone. -/
theorem Memory.read_write_other (c : Config) (mem : List Host.Cell) {a x : Nat} (b : Byte) (h : x ≠ a) :
    Memory.read c (Memory.write c mem a b) x = Memory.read c mem x := by
  unfold Memory.write
  split <;> simp [Memory.read, Memory.lookup_insert_other _ _ h, Memory.lookup_erase_other _ h]

/-! ### The canonical form -/

/-- Every cell of the list lies above an address. -/
def Memory.above (x : Nat) (mem : List Host.Cell) : Prop := ∀ cell ∈ mem, x < cell.1

theorem Memory.rising_cons {a : Nat} {b : Byte} {mem : List Host.Cell} :
    Memory.rising ((a, b) :: mem) = true ↔ Memory.above a mem ∧ Memory.rising mem = true := by
  induction mem generalizing a b with
  | nil => simp [Memory.rising, Memory.above]
  | cons cell rest ih =>
    obtain ⟨k, v⟩ := cell
    simp only [Memory.rising, Bool.and_eq_true, decide_eq_true_eq]
    constructor
    · rintro ⟨hak, hr⟩
      refine ⟨?_, hr⟩
      rintro ⟨x, y⟩ hx
      rcases List.mem_cons.mp hx with h | h
      · cases h; exact hak
      · exact Nat.lt_trans hak ((ih.mp hr).1 _ h)
    · rintro ⟨habove, hr⟩
      exact ⟨habove (k, v) (by simp), hr⟩

theorem Memory.erase_sublist (mem : List Host.Cell) (a : Nat) : (Memory.erase mem a).Sublist mem := by
  induction mem with
  | nil => exact List.Sublist.refl _
  | cons cell rest ih =>
    obtain ⟨k, v⟩ := cell
    by_cases h : k = a
    · simpa [Memory.erase, h] using ih.trans (List.sublist_cons_self _ _)
    · simpa [Memory.erase, h] using ih

theorem Memory.rising_erase {mem : List Host.Cell} (a : Nat) (h : Memory.rising mem = true) :
    Memory.rising (Memory.erase mem a) = true := by
  induction mem with
  | nil => rfl
  | cons cell rest ih =>
    obtain ⟨k, v⟩ := cell
    obtain ⟨habove, hr⟩ := Memory.rising_cons.mp h
    by_cases hk : k = a
    · simpa [Memory.erase, hk] using ih hr
    · simp only [Memory.erase, hk, if_false]
      exact Memory.rising_cons.mpr ⟨fun cell hc => habove cell ((Memory.erase_sublist rest a).subset hc), ih hr⟩

theorem Memory.mem_insert {mem : List Host.Cell} {a : Nat} {b : Byte} {cell : Host.Cell} :
    cell ∈ Memory.insert mem a b ↔ cell = (a, b) ∨ cell ∈ mem := by
  induction mem with
  | nil => simp [Memory.insert]
  | cons c rest ih =>
    obtain ⟨k, v⟩ := c
    by_cases h : a < k
    · simp [Memory.insert, h]
    · simp only [Memory.insert, h, if_false, List.mem_cons, ih]
      tauto

theorem Memory.rising_insert {mem : List Host.Cell} {a : Nat} {b : Byte} (h : Memory.rising mem = true)
    (hne : ∀ cell ∈ mem, cell.1 ≠ a) : Memory.rising (Memory.insert mem a b) = true := by
  induction mem with
  | nil => rfl
  | cons cell rest ih =>
    obtain ⟨k, v⟩ := cell
    obtain ⟨habove, hr⟩ := Memory.rising_cons.mp h
    by_cases hlt : a < k
    · simp only [Memory.insert, hlt, if_true]
      refine Memory.rising_cons.mpr ⟨?_, h⟩
      intro c hc
      rcases List.mem_cons.mp hc with h' | h'
      · simpa [h'] using hlt
      · exact Nat.lt_trans hlt (habove c h')
    · have hka : k < a := by
        have := hne (k, v) (by simp)
        omega
      simp only [Memory.insert, hlt, if_false]
      refine Memory.rising_cons.mpr ⟨?_, ih hr fun c hc => hne c (by simp [hc])⟩
      intro c hc
      rcases Memory.mem_insert.mp hc with h' | h'
      · simpa [h'] using hka
      · exact habove c h'

theorem Memory.erase_ne {mem : List Host.Cell} {a : Nat} {cell : Host.Cell} (h : cell ∈ Memory.erase mem a) :
    cell.1 ≠ a := by
  induction mem with
  | nil => simp [Memory.erase] at h
  | cons c rest ih =>
    obtain ⟨k, v⟩ := c
    by_cases hk : k = a
    · exact ih (by simpa [Memory.erase, hk] using h)
    · simp only [Memory.erase, hk, if_false, List.mem_cons] at h
      rcases h with h | h
      · simpa [h] using hk
      · exact ih h

/-- A write to a writable address keeps the canonical form. -/
theorem Memory.wf_write {c : Config} {mem : List Host.Cell} {a : Nat} {b : Byte} (ha : isDigitAddr a = true)
    (h : Memory.wf c mem = true) : Memory.wf c (Memory.write c mem a b) = true := by
  simp only [Memory.wf, Bool.and_eq_true, List.all_eq_true] at h ⊢
  obtain ⟨hr, hall⟩ := h
  have herase : ∀ cell ∈ Memory.erase mem a, _ := fun cell hc => hall cell ((Memory.erase_sublist mem a).subset hc)
  unfold Memory.write
  split
  · exact ⟨Memory.rising_erase a hr, herase⟩
  · next hne =>
    refine ⟨Memory.rising_insert (Memory.rising_erase a hr) fun cell hc => Memory.erase_ne hc, ?_⟩
    intro cell hc
    rcases Memory.mem_insert.mp hc with h' | h'
    · subst h'; simp [ha, hne]
    · exact herase cell h'

/-- Writing the three digits keeps the canonical form. -/
theorem writeDigits_wf {c : Config} {mem : List Host.Cell} (d0 d1 d2 : Byte) (h : Memory.wf c mem = true) :
    Memory.wf c (writeDigits c mem d0 d1 d2) = true :=
  Memory.wf_write rfl (Memory.wf_write rfl (Memory.wf_write rfl h))

/-- The empty list, memory at reset, is in canonical form. -/
theorem Memory.wf_nil (c : Config) : Memory.wf c [] = true := rfl

/-! ### The digits after the write of `EST_FMT` (R64, R134) -/

theorem writeDigits_read_zero (c : Config) (mem : List Host.Cell) (d0 d1 d2 : Byte) :
    Memory.read c (writeDigits c mem d0 d1 d2) (msgAddr 9 0) = some d0 := by
  unfold writeDigits
  rw [Memory.read_write_other c _ d2 (by decide), Memory.read_write_other c _ d1 (by decide), Memory.read_write_self]

theorem writeDigits_read_one (c : Config) (mem : List Host.Cell) (d0 d1 d2 : Byte) :
    Memory.read c (writeDigits c mem d0 d1 d2) (msgAddr 9 1) = some d1 := by
  unfold writeDigits
  rw [Memory.read_write_other c _ d2 (by decide), Memory.read_write_self]

theorem writeDigits_read_two (c : Config) (mem : List Host.Cell) (d0 d1 d2 : Byte) :
    Memory.read c (writeDigits c mem d0 d1 d2) (msgAddr 9 2) = some d2 := by
  unfold writeDigits
  rw [Memory.read_write_self]

/-- The writable addresses are the three digits (R64). -/
theorem isDigitAddr_iff {a : Nat} : isDigitAddr a = true ↔ a = msgAddr 9 0 ∨ a = msgAddr 9 1 ∨ a = msgAddr 9 2 := by
  simp only [isDigitAddr, Bool.and_eq_true, decide_eq_true_eq]
  simp only [msgAddr]
  omega

/-- The write of the digits leaves every other address alone. -/
theorem writeDigits_read_other (c : Config) (mem : List Host.Cell) (d0 d1 d2 : Byte) {x : Nat}
    (h : isDigitAddr x = false) : Memory.read c (writeDigits c mem d0 d1 d2) x = Memory.read c mem x := by
  have hne : x ≠ msgAddr 9 0 ∧ x ≠ msgAddr 9 1 ∧ x ≠ msgAddr 9 2 := by
    refine ⟨?_, ?_, ?_⟩ <;> rintro rfl <;> exact absurd h (by decide)
  unfold writeDigits
  rw [Memory.read_write_other c _ d2 hne.2.2, Memory.read_write_other c _ d1 hne.2.1, Memory.read_write_other c _ d0 hne.1]

/-! ### `MemRead` depends on nothing but the configuration and the digits (R62) -/

theorem memRead_congr {s t : State} (hc : t.cfg = s.cfg) (hm : t.mem = s.mem) (m : Nibble) (i : Nat) :
    memRead t m i = memRead s m i := by
  unfold memRead digit
  rw [hc, hm]

theorem msgLen_congr {s t : State} (hc : t.cfg = s.cfg) (m : Nibble) : msgLen t m = msgLen s m := by
  simp only [msgLen, hc]

/-- A byte outside `DIGITS` reads the same whatever the cells hold. -/
theorem memRead_outside_digits {s t : State} (hc : t.cfg = s.cfg) (m : Nibble) (i : Nat) (h : ¬ (m.toNat = 9 ∧ i < 3)) :
    memRead t m i = memRead s m i := by
  simp only [memRead, hc, h, if_false]

/-- `digitChar` is an ASCII digit (R134). -/
theorem isAsciiDigit_digitChar (dist w : Nat) : isAsciiDigit (digitChar dist w) = true := by
  unfold digitChar
  have h : dist / w % 10 < 10 := Nat.mod_lt _ (by decide)
  generalize dist / w % 10 = k at h
  interval_cases k <;> decide

end Sys2Proof.Machine
end

