-- ==== Sys2Proof/Laws/State.lean ====
section
/-! SUPPORT. One lemma per field per shared update, so that no later proof unfolds a record update. -/

namespace Sys2Proof.Machine

/-! ### `goTo` -/

@[simp] theorem goTo_cfg (pc : Nibble) (s : State) : (goTo pc s).cfg = s.cfg := rfl
@[simp] theorem goTo_cntMsg (pc : Nibble) (s : State) : (goTo pc s).cntMsg = s.cntMsg := rfl
@[simp] theorem goTo_cntTrig (pc : Nibble) (s : State) : (goTo pc s).cntTrig = s.cntTrig := rfl
@[simp] theorem goTo_cntLed (pc : Nibble) (s : State) : (goTo pc s).cntLed = s.cntLed := rfl
@[simp] theorem goTo_pulse (pc : Nibble) (s : State) : (goTo pc s).pulse = s.pulse := rfl
@[simp] theorem goTo_distance (pc : Nibble) (s : State) : (goTo pc s).distance = s.distance := rfl
@[simp] theorem goTo_ledPeriod (pc : Nibble) (s : State) : (goTo pc s).ledPeriod = s.ledPeriod := rfl
@[simp] theorem goTo_mem (pc : Nibble) (s : State) : (goTo pc s).mem = s.mem := rfl
@[simp] theorem goTo_holdCnt (pc : Nibble) (s : State) : (goTo pc s).holdCnt = s.holdCnt := rfl
@[simp] theorem goTo_tD (pc : Nibble) (s : State) : (goTo pc s).tD = s.tD := rfl
@[simp] theorem goTo_tCmd (pc : Nibble) (s : State) : (goTo pc s).tCmd = s.tCmd := rfl
@[simp] theorem goTo_tMsg (pc : Nibble) (s : State) : (goTo pc s).tMsg = s.tMsg := rfl
@[simp] theorem goTo_mlPc (pc : Nibble) (s : State) : (goTo pc s).mlPc = pc := rfl
@[simp] theorem goTo_cursor (pc : Nibble) (s : State) : (goTo pc s).cursor = s.cursor := rfl
@[simp] theorem goTo_echoReady (pc : Nibble) (s : State) : (goTo pc s).echoReady = s.echoReady := rfl
@[simp] theorem goTo_cmdPresent (pc : Nibble) (s : State) : (goTo pc s).cmdPresent = s.cmdPresent := rfl
@[simp] theorem goTo_led (pc : Nibble) (s : State) : (goTo pc s).led = s.led := rfl
@[simp] theorem goTo_trig (pc : Nibble) (s : State) : (goTo pc s).trig = s.trig := rfl
@[simp] theorem goTo_txState (pc : Nibble) (s : State) : (goTo pc s).txState = s.txState := rfl
@[simp] theorem goTo_txOverrun (pc : Nibble) (s : State) : (goTo pc s).txOverrun = s.txOverrun := rfl
@[simp] theorem goTo_cmdCode (pc : Nibble) (s : State) : (goTo pc s).cmdCode = s.cmdCode := rfl
@[simp] theorem goTo_lastCmd (pc : Nibble) (s : State) : (goTo pc s).lastCmd = s.lastCmd := rfl
@[simp] theorem goTo_dir (pc : Nibble) (s : State) : (goTo pc s).dir = s.dir := rfl
@[simp] theorem goTo_dutyPct (pc : Nibble) (s : State) : (goTo pc s).dutyPct = s.dutyPct := rfl
@[simp] theorem goTo_msgSel (pc : Nibble) (s : State) : (goTo pc s).msgSel = s.msgSel := rfl
@[simp] theorem goTo_txData (pc : Nibble) (s : State) : (goTo pc s).txData = s.txData := rfl
@[simp] theorem goTo_txStrobe (pc : Nibble) (s : State) : (goTo pc s).txStrobe = s.txStrobe := rfl
@[simp] theorem goTo_wire (pc : Nibble) (s : State) : (goTo pc s).wire = s.wire := rfl
@[simp] theorem goTo_due (pc : Nibble) (s : State) : (goTo pc s).due = s.due := rfl
@[simp] theorem goTo_envCount (pc : Nibble) (s : State) : (goTo pc s).envCount = s.envCount := rfl

/-! ### `txWrite` -/

@[simp] theorem txWrite_cfg (b : Byte) (s : State) : (txWrite b s).cfg = s.cfg := rfl
@[simp] theorem txWrite_cntMsg (b : Byte) (s : State) : (txWrite b s).cntMsg = s.cntMsg := rfl
@[simp] theorem txWrite_cntTrig (b : Byte) (s : State) : (txWrite b s).cntTrig = s.cntTrig := rfl
@[simp] theorem txWrite_cntLed (b : Byte) (s : State) : (txWrite b s).cntLed = s.cntLed := rfl
@[simp] theorem txWrite_pulse (b : Byte) (s : State) : (txWrite b s).pulse = s.pulse := rfl
@[simp] theorem txWrite_distance (b : Byte) (s : State) : (txWrite b s).distance = s.distance := rfl
@[simp] theorem txWrite_ledPeriod (b : Byte) (s : State) : (txWrite b s).ledPeriod = s.ledPeriod := rfl
@[simp] theorem txWrite_mem (b : Byte) (s : State) : (txWrite b s).mem = s.mem := rfl
@[simp] theorem txWrite_holdCnt (b : Byte) (s : State) : (txWrite b s).holdCnt = s.holdCnt := rfl
@[simp] theorem txWrite_tD (b : Byte) (s : State) : (txWrite b s).tD = s.tD := rfl
@[simp] theorem txWrite_tCmd (b : Byte) (s : State) : (txWrite b s).tCmd = s.tCmd := rfl
@[simp] theorem txWrite_tMsg (b : Byte) (s : State) : (txWrite b s).tMsg = s.tMsg := rfl
@[simp] theorem txWrite_mlPc (b : Byte) (s : State) : (txWrite b s).mlPc = s.mlPc := rfl
@[simp] theorem txWrite_cursor (b : Byte) (s : State) : (txWrite b s).cursor = s.cursor := rfl
@[simp] theorem txWrite_echoReady (b : Byte) (s : State) : (txWrite b s).echoReady = s.echoReady := rfl
@[simp] theorem txWrite_cmdPresent (b : Byte) (s : State) : (txWrite b s).cmdPresent = s.cmdPresent := rfl
@[simp] theorem txWrite_led (b : Byte) (s : State) : (txWrite b s).led = s.led := rfl
@[simp] theorem txWrite_trig (b : Byte) (s : State) : (txWrite b s).trig = s.trig := rfl
@[simp] theorem txWrite_txState (b : Byte) (s : State) : (txWrite b s).txState = .sending := rfl
@[simp] theorem txWrite_txOverrun (b : Byte) (s : State) : (txWrite b s).txOverrun = overrunAfterWrite s := rfl
@[simp] theorem txWrite_cmdCode (b : Byte) (s : State) : (txWrite b s).cmdCode = s.cmdCode := rfl
@[simp] theorem txWrite_lastCmd (b : Byte) (s : State) : (txWrite b s).lastCmd = s.lastCmd := rfl
@[simp] theorem txWrite_dir (b : Byte) (s : State) : (txWrite b s).dir = s.dir := rfl
@[simp] theorem txWrite_dutyPct (b : Byte) (s : State) : (txWrite b s).dutyPct = s.dutyPct := rfl
@[simp] theorem txWrite_msgSel (b : Byte) (s : State) : (txWrite b s).msgSel = s.msgSel := rfl
@[simp] theorem txWrite_txData (b : Byte) (s : State) : (txWrite b s).txData = b := rfl
@[simp] theorem txWrite_txStrobe (b : Byte) (s : State) : (txWrite b s).txStrobe = true := rfl
@[simp] theorem txWrite_wire (b : Byte) (s : State) : (txWrite b s).wire = s.wire ++ [⟨b, overrunAfterWrite s⟩] := rfl
@[simp] theorem txWrite_due (b : Byte) (s : State) : (txWrite b s).due = s.due := rfl
@[simp] theorem txWrite_envCount (b : Byte) (s : State) : (txWrite b s).envCount = s.envCount := rfl

/-! ### `zeroResend` -/

@[simp] theorem zeroResend_cfg (s : State) : (zeroResend s).cfg = s.cfg := rfl
@[simp] theorem zeroResend_cntMsg (s : State) : (zeroResend s).cntMsg = 0#16 := rfl
@[simp] theorem zeroResend_cntTrig (s : State) : (zeroResend s).cntTrig = s.cntTrig := rfl
@[simp] theorem zeroResend_cntLed (s : State) : (zeroResend s).cntLed = s.cntLed := rfl
@[simp] theorem zeroResend_pulse (s : State) : (zeroResend s).pulse = s.pulse := rfl
@[simp] theorem zeroResend_distance (s : State) : (zeroResend s).distance = s.distance := rfl
@[simp] theorem zeroResend_ledPeriod (s : State) : (zeroResend s).ledPeriod = s.ledPeriod := rfl
@[simp] theorem zeroResend_mem (s : State) : (zeroResend s).mem = s.mem := rfl
@[simp] theorem zeroResend_holdCnt (s : State) : (zeroResend s).holdCnt = s.holdCnt := rfl
@[simp] theorem zeroResend_tD (s : State) : (zeroResend s).tD = s.tD := rfl
@[simp] theorem zeroResend_tCmd (s : State) : (zeroResend s).tCmd = s.tCmd := rfl
@[simp] theorem zeroResend_tMsg (s : State) : (zeroResend s).tMsg = s.tMsg := rfl
@[simp] theorem zeroResend_mlPc (s : State) : (zeroResend s).mlPc = s.mlPc := rfl
@[simp] theorem zeroResend_cursor (s : State) : (zeroResend s).cursor = s.cursor := rfl
@[simp] theorem zeroResend_echoReady (s : State) : (zeroResend s).echoReady = s.echoReady := rfl
@[simp] theorem zeroResend_cmdPresent (s : State) : (zeroResend s).cmdPresent = s.cmdPresent := rfl
@[simp] theorem zeroResend_led (s : State) : (zeroResend s).led = s.led := rfl
@[simp] theorem zeroResend_trig (s : State) : (zeroResend s).trig = s.trig := rfl
@[simp] theorem zeroResend_txState (s : State) : (zeroResend s).txState = s.txState := rfl
@[simp] theorem zeroResend_txOverrun (s : State) : (zeroResend s).txOverrun = s.txOverrun := rfl
@[simp] theorem zeroResend_cmdCode (s : State) : (zeroResend s).cmdCode = s.cmdCode := rfl
@[simp] theorem zeroResend_lastCmd (s : State) : (zeroResend s).lastCmd = s.lastCmd := rfl
@[simp] theorem zeroResend_dir (s : State) : (zeroResend s).dir = s.dir := rfl
@[simp] theorem zeroResend_dutyPct (s : State) : (zeroResend s).dutyPct = s.dutyPct := rfl
@[simp] theorem zeroResend_msgSel (s : State) : (zeroResend s).msgSel = s.msgSel := rfl
@[simp] theorem zeroResend_txData (s : State) : (zeroResend s).txData = s.txData := rfl
@[simp] theorem zeroResend_txStrobe (s : State) : (zeroResend s).txStrobe = s.txStrobe := rfl
@[simp] theorem zeroResend_wire (s : State) : (zeroResend s).wire = s.wire := rfl
@[simp] theorem zeroResend_due (s : State) : (zeroResend s).due = s.due := rfl
@[simp] theorem zeroResend_envCount (s : State) : (zeroResend s).envCount = s.envCount := rfl

/-! ### `countResend` -/

@[simp] theorem countResend_cfg (s : State) : (countResend s).cfg = s.cfg := rfl
@[simp] theorem countResend_cntMsg (s : State) : (countResend s).cntMsg = s.cntMsg + 1#16 := rfl
@[simp] theorem countResend_cntTrig (s : State) : (countResend s).cntTrig = s.cntTrig := rfl
@[simp] theorem countResend_cntLed (s : State) : (countResend s).cntLed = s.cntLed := rfl
@[simp] theorem countResend_pulse (s : State) : (countResend s).pulse = s.pulse := rfl
@[simp] theorem countResend_distance (s : State) : (countResend s).distance = s.distance := rfl
@[simp] theorem countResend_ledPeriod (s : State) : (countResend s).ledPeriod = s.ledPeriod := rfl
@[simp] theorem countResend_mem (s : State) : (countResend s).mem = s.mem := rfl
@[simp] theorem countResend_holdCnt (s : State) : (countResend s).holdCnt = s.holdCnt := rfl
@[simp] theorem countResend_tD (s : State) : (countResend s).tD = s.tD := rfl
@[simp] theorem countResend_tCmd (s : State) : (countResend s).tCmd = s.tCmd := rfl
@[simp] theorem countResend_tMsg (s : State) : (countResend s).tMsg = s.tMsg := rfl
@[simp] theorem countResend_mlPc (s : State) : (countResend s).mlPc = s.mlPc := rfl
@[simp] theorem countResend_cursor (s : State) : (countResend s).cursor = s.cursor := rfl
@[simp] theorem countResend_echoReady (s : State) : (countResend s).echoReady = s.echoReady := rfl
@[simp] theorem countResend_cmdPresent (s : State) : (countResend s).cmdPresent = s.cmdPresent := rfl
@[simp] theorem countResend_led (s : State) : (countResend s).led = s.led := rfl
@[simp] theorem countResend_trig (s : State) : (countResend s).trig = s.trig := rfl
@[simp] theorem countResend_txState (s : State) : (countResend s).txState = s.txState := rfl
@[simp] theorem countResend_txOverrun (s : State) : (countResend s).txOverrun = s.txOverrun := rfl
@[simp] theorem countResend_cmdCode (s : State) : (countResend s).cmdCode = s.cmdCode := rfl
@[simp] theorem countResend_lastCmd (s : State) : (countResend s).lastCmd = s.lastCmd := rfl
@[simp] theorem countResend_dir (s : State) : (countResend s).dir = s.dir := rfl
@[simp] theorem countResend_dutyPct (s : State) : (countResend s).dutyPct = s.dutyPct := rfl
@[simp] theorem countResend_msgSel (s : State) : (countResend s).msgSel = s.msgSel := rfl
@[simp] theorem countResend_txData (s : State) : (countResend s).txData = s.txData := rfl
@[simp] theorem countResend_txStrobe (s : State) : (countResend s).txStrobe = s.txStrobe := rfl
@[simp] theorem countResend_wire (s : State) : (countResend s).wire = s.wire := rfl
@[simp] theorem countResend_due (s : State) : (countResend s).due = s.due := rfl
@[simp] theorem countResend_envCount (s : State) : (countResend s).envCount = s.envCount := rfl

/-! ### `selectMessage` -/

@[simp] theorem selectMessage_cfg (m : Nibble) (s : State) : (selectMessage m s).cfg = s.cfg := rfl
@[simp] theorem selectMessage_cntMsg (m : Nibble) (s : State) : (selectMessage m s).cntMsg = s.cntMsg := rfl
@[simp] theorem selectMessage_cntTrig (m : Nibble) (s : State) : (selectMessage m s).cntTrig = s.cntTrig := rfl
@[simp] theorem selectMessage_cntLed (m : Nibble) (s : State) : (selectMessage m s).cntLed = s.cntLed := rfl
@[simp] theorem selectMessage_pulse (m : Nibble) (s : State) : (selectMessage m s).pulse = s.pulse := rfl
@[simp] theorem selectMessage_distance (m : Nibble) (s : State) : (selectMessage m s).distance = s.distance := rfl
@[simp] theorem selectMessage_ledPeriod (m : Nibble) (s : State) : (selectMessage m s).ledPeriod = s.ledPeriod := rfl
@[simp] theorem selectMessage_mem (m : Nibble) (s : State) : (selectMessage m s).mem = s.mem := rfl
@[simp] theorem selectMessage_holdCnt (m : Nibble) (s : State) : (selectMessage m s).holdCnt = s.holdCnt := rfl
@[simp] theorem selectMessage_tD (m : Nibble) (s : State) : (selectMessage m s).tD = s.tD := rfl
@[simp] theorem selectMessage_tCmd (m : Nibble) (s : State) : (selectMessage m s).tCmd = s.tCmd := rfl
@[simp] theorem selectMessage_tMsg (m : Nibble) (s : State) : (selectMessage m s).tMsg = s.tMsg := rfl
@[simp] theorem selectMessage_mlPc (m : Nibble) (s : State) : (selectMessage m s).mlPc = s.mlPc := rfl
@[simp] theorem selectMessage_cursor (m : Nibble) (s : State) : (selectMessage m s).cursor = 0#8 := rfl
@[simp] theorem selectMessage_echoReady (m : Nibble) (s : State) : (selectMessage m s).echoReady = s.echoReady := rfl
@[simp] theorem selectMessage_cmdPresent (m : Nibble) (s : State) : (selectMessage m s).cmdPresent = s.cmdPresent := rfl
@[simp] theorem selectMessage_led (m : Nibble) (s : State) : (selectMessage m s).led = s.led := rfl
@[simp] theorem selectMessage_trig (m : Nibble) (s : State) : (selectMessage m s).trig = s.trig := rfl
@[simp] theorem selectMessage_txState (m : Nibble) (s : State) : (selectMessage m s).txState = s.txState := rfl
@[simp] theorem selectMessage_txOverrun (m : Nibble) (s : State) : (selectMessage m s).txOverrun = s.txOverrun := rfl
@[simp] theorem selectMessage_cmdCode (m : Nibble) (s : State) : (selectMessage m s).cmdCode = s.cmdCode := rfl
@[simp] theorem selectMessage_lastCmd (m : Nibble) (s : State) : (selectMessage m s).lastCmd = s.lastCmd := rfl
@[simp] theorem selectMessage_dir (m : Nibble) (s : State) : (selectMessage m s).dir = s.dir := rfl
@[simp] theorem selectMessage_dutyPct (m : Nibble) (s : State) : (selectMessage m s).dutyPct = s.dutyPct := rfl
@[simp] theorem selectMessage_msgSel (m : Nibble) (s : State) : (selectMessage m s).msgSel = m := rfl
@[simp] theorem selectMessage_txData (m : Nibble) (s : State) : (selectMessage m s).txData = s.txData := rfl
@[simp] theorem selectMessage_txStrobe (m : Nibble) (s : State) : (selectMessage m s).txStrobe = s.txStrobe := rfl
@[simp] theorem selectMessage_wire (m : Nibble) (s : State) : (selectMessage m s).wire = s.wire := rfl
@[simp] theorem selectMessage_due (m : Nibble) (s : State) : (selectMessage m s).due = s.due := rfl
@[simp] theorem selectMessage_envCount (m : Nibble) (s : State) : (selectMessage m s).envCount = s.envCount := rfl

/-! ### `byteSent` -/

@[simp] theorem byteSent_cfg (cur : Byte) (s : State) : (byteSent cur s).cfg = s.cfg := rfl
@[simp] theorem byteSent_cntMsg (cur : Byte) (s : State) : (byteSent cur s).cntMsg = s.cntMsg := rfl
@[simp] theorem byteSent_cntTrig (cur : Byte) (s : State) : (byteSent cur s).cntTrig = s.cntTrig := rfl
@[simp] theorem byteSent_cntLed (cur : Byte) (s : State) : (byteSent cur s).cntLed = s.cntLed := rfl
@[simp] theorem byteSent_pulse (cur : Byte) (s : State) : (byteSent cur s).pulse = s.pulse := rfl
@[simp] theorem byteSent_distance (cur : Byte) (s : State) : (byteSent cur s).distance = s.distance := rfl
@[simp] theorem byteSent_ledPeriod (cur : Byte) (s : State) : (byteSent cur s).ledPeriod = s.ledPeriod := rfl
@[simp] theorem byteSent_mem (cur : Byte) (s : State) : (byteSent cur s).mem = s.mem := rfl
@[simp] theorem byteSent_holdCnt (cur : Byte) (s : State) : (byteSent cur s).holdCnt = s.holdCnt := rfl
@[simp] theorem byteSent_tD (cur : Byte) (s : State) : (byteSent cur s).tD = s.tD := rfl
@[simp] theorem byteSent_tCmd (cur : Byte) (s : State) : (byteSent cur s).tCmd = s.tCmd := rfl
@[simp] theorem byteSent_tMsg (cur : Byte) (s : State) : (byteSent cur s).tMsg = s.tMsg := rfl
@[simp] theorem byteSent_mlPc (cur : Byte) (s : State) : (byteSent cur s).mlPc = s.mlPc := rfl
@[simp] theorem byteSent_cursor (cur : Byte) (s : State) : (byteSent cur s).cursor = cur := rfl
@[simp] theorem byteSent_echoReady (cur : Byte) (s : State) : (byteSent cur s).echoReady = s.echoReady := rfl
@[simp] theorem byteSent_cmdPresent (cur : Byte) (s : State) : (byteSent cur s).cmdPresent = s.cmdPresent := rfl
@[simp] theorem byteSent_led (cur : Byte) (s : State) : (byteSent cur s).led = s.led := rfl
@[simp] theorem byteSent_trig (cur : Byte) (s : State) : (byteSent cur s).trig = s.trig := rfl
@[simp] theorem byteSent_txState (cur : Byte) (s : State) : (byteSent cur s).txState = .idle := rfl
@[simp] theorem byteSent_txOverrun (cur : Byte) (s : State) : (byteSent cur s).txOverrun = s.txOverrun := rfl
@[simp] theorem byteSent_cmdCode (cur : Byte) (s : State) : (byteSent cur s).cmdCode = s.cmdCode := rfl
@[simp] theorem byteSent_lastCmd (cur : Byte) (s : State) : (byteSent cur s).lastCmd = s.lastCmd := rfl
@[simp] theorem byteSent_dir (cur : Byte) (s : State) : (byteSent cur s).dir = s.dir := rfl
@[simp] theorem byteSent_dutyPct (cur : Byte) (s : State) : (byteSent cur s).dutyPct = s.dutyPct := rfl
@[simp] theorem byteSent_msgSel (cur : Byte) (s : State) : (byteSent cur s).msgSel = s.msgSel := rfl
@[simp] theorem byteSent_txData (cur : Byte) (s : State) : (byteSent cur s).txData = s.txData := rfl
@[simp] theorem byteSent_txStrobe (cur : Byte) (s : State) : (byteSent cur s).txStrobe = s.txStrobe := rfl
@[simp] theorem byteSent_wire (cur : Byte) (s : State) : (byteSent cur s).wire = s.wire := rfl
@[simp] theorem byteSent_due (cur : Byte) (s : State) : (byteSent cur s).due = s.due := rfl
@[simp] theorem byteSent_envCount (cur : Byte) (s : State) : (byteSent cur s).envCount = s.envCount := rfl

/-! ### `announce` -/

@[simp] theorem announce_cfg (m : Nibble) (s : State) : (announce m s).cfg = s.cfg := rfl
@[simp] theorem announce_cntMsg (m : Nibble) (s : State) : (announce m s).cntMsg = s.cntMsg := rfl
@[simp] theorem announce_cntTrig (m : Nibble) (s : State) : (announce m s).cntTrig = s.cntTrig := rfl
@[simp] theorem announce_cntLed (m : Nibble) (s : State) : (announce m s).cntLed = s.cntLed := rfl
@[simp] theorem announce_pulse (m : Nibble) (s : State) : (announce m s).pulse = s.pulse := rfl
@[simp] theorem announce_distance (m : Nibble) (s : State) : (announce m s).distance = s.distance := rfl
@[simp] theorem announce_ledPeriod (m : Nibble) (s : State) : (announce m s).ledPeriod = s.ledPeriod := rfl
@[simp] theorem announce_mem (m : Nibble) (s : State) : (announce m s).mem = s.mem := rfl
@[simp] theorem announce_holdCnt (m : Nibble) (s : State) : (announce m s).holdCnt = s.holdCnt := rfl
@[simp] theorem announce_tD (m : Nibble) (s : State) : (announce m s).tD = s.tD := rfl
@[simp] theorem announce_tCmd (m : Nibble) (s : State) : (announce m s).tCmd = s.tCmd := rfl
@[simp] theorem announce_tMsg (m : Nibble) (s : State) : (announce m s).tMsg = m := rfl
@[simp] theorem announce_mlPc (m : Nibble) (s : State) : (announce m s).mlPc = pcSel := rfl
@[simp] theorem announce_cursor (m : Nibble) (s : State) : (announce m s).cursor = s.cursor := rfl
@[simp] theorem announce_echoReady (m : Nibble) (s : State) : (announce m s).echoReady = s.echoReady := rfl
@[simp] theorem announce_cmdPresent (m : Nibble) (s : State) : (announce m s).cmdPresent = s.cmdPresent := rfl
@[simp] theorem announce_led (m : Nibble) (s : State) : (announce m s).led = s.led := rfl
@[simp] theorem announce_trig (m : Nibble) (s : State) : (announce m s).trig = s.trig := rfl
@[simp] theorem announce_txState (m : Nibble) (s : State) : (announce m s).txState = s.txState := rfl
@[simp] theorem announce_txOverrun (m : Nibble) (s : State) : (announce m s).txOverrun = s.txOverrun := rfl
@[simp] theorem announce_cmdCode (m : Nibble) (s : State) : (announce m s).cmdCode = s.cmdCode := rfl
@[simp] theorem announce_lastCmd (m : Nibble) (s : State) : (announce m s).lastCmd = s.lastCmd := rfl
@[simp] theorem announce_dir (m : Nibble) (s : State) : (announce m s).dir = s.dir := rfl
@[simp] theorem announce_dutyPct (m : Nibble) (s : State) : (announce m s).dutyPct = s.dutyPct := rfl
@[simp] theorem announce_msgSel (m : Nibble) (s : State) : (announce m s).msgSel = s.msgSel := rfl
@[simp] theorem announce_txData (m : Nibble) (s : State) : (announce m s).txData = s.txData := rfl
@[simp] theorem announce_txStrobe (m : Nibble) (s : State) : (announce m s).txStrobe = s.txStrobe := rfl
@[simp] theorem announce_wire (m : Nibble) (s : State) : (announce m s).wire = s.wire := rfl
@[simp] theorem announce_due (m : Nibble) (s : State) : (announce m s).due = s.due := rfl
@[simp] theorem announce_envCount (m : Nibble) (s : State) : (announce m s).envCount = s.envCount := rfl

/-! ### `startTurn` -/

@[simp] theorem startTurn_cfg (d : Direction) (m : Nibble) (s : State) : (startTurn d m s).cfg = s.cfg := rfl
@[simp] theorem startTurn_cntMsg (d : Direction) (m : Nibble) (s : State) : (startTurn d m s).cntMsg = s.cntMsg := rfl
@[simp] theorem startTurn_cntTrig (d : Direction) (m : Nibble) (s : State) : (startTurn d m s).cntTrig = s.cntTrig := rfl
@[simp] theorem startTurn_cntLed (d : Direction) (m : Nibble) (s : State) : (startTurn d m s).cntLed = s.cntLed := rfl
@[simp] theorem startTurn_pulse (d : Direction) (m : Nibble) (s : State) : (startTurn d m s).pulse = s.pulse := rfl
@[simp] theorem startTurn_distance (d : Direction) (m : Nibble) (s : State) : (startTurn d m s).distance = s.distance := rfl
@[simp] theorem startTurn_ledPeriod (d : Direction) (m : Nibble) (s : State) : (startTurn d m s).ledPeriod = s.ledPeriod := rfl
@[simp] theorem startTurn_mem (d : Direction) (m : Nibble) (s : State) : (startTurn d m s).mem = s.mem := rfl
@[simp] theorem startTurn_holdCnt (d : Direction) (m : Nibble) (s : State) : (startTurn d m s).holdCnt = s.cfg.turnHoldTicks := rfl
@[simp] theorem startTurn_tD (d : Direction) (m : Nibble) (s : State) : (startTurn d m s).tD = s.tD := rfl
@[simp] theorem startTurn_tCmd (d : Direction) (m : Nibble) (s : State) : (startTurn d m s).tCmd = s.tCmd := rfl
@[simp] theorem startTurn_tMsg (d : Direction) (m : Nibble) (s : State) : (startTurn d m s).tMsg = m := rfl
@[simp] theorem startTurn_mlPc (d : Direction) (m : Nibble) (s : State) : (startTurn d m s).mlPc = pcTurnHold := rfl
@[simp] theorem startTurn_cursor (d : Direction) (m : Nibble) (s : State) : (startTurn d m s).cursor = s.cursor := rfl
@[simp] theorem startTurn_echoReady (d : Direction) (m : Nibble) (s : State) : (startTurn d m s).echoReady = s.echoReady := rfl
@[simp] theorem startTurn_cmdPresent (d : Direction) (m : Nibble) (s : State) : (startTurn d m s).cmdPresent = s.cmdPresent := rfl
@[simp] theorem startTurn_led (d : Direction) (m : Nibble) (s : State) : (startTurn d m s).led = s.led := rfl
@[simp] theorem startTurn_trig (d : Direction) (m : Nibble) (s : State) : (startTurn d m s).trig = s.trig := rfl
@[simp] theorem startTurn_txState (d : Direction) (m : Nibble) (s : State) : (startTurn d m s).txState = s.txState := rfl
@[simp] theorem startTurn_txOverrun (d : Direction) (m : Nibble) (s : State) : (startTurn d m s).txOverrun = s.txOverrun := rfl
@[simp] theorem startTurn_cmdCode (d : Direction) (m : Nibble) (s : State) : (startTurn d m s).cmdCode = s.cmdCode := rfl
@[simp] theorem startTurn_lastCmd (d : Direction) (m : Nibble) (s : State) : (startTurn d m s).lastCmd = s.lastCmd := rfl
@[simp] theorem startTurn_dir (d : Direction) (m : Nibble) (s : State) : (startTurn d m s).dir = d := rfl
@[simp] theorem startTurn_dutyPct (d : Direction) (m : Nibble) (s : State) : (startTurn d m s).dutyPct = s.dutyPct := rfl
@[simp] theorem startTurn_msgSel (d : Direction) (m : Nibble) (s : State) : (startTurn d m s).msgSel = s.msgSel := rfl
@[simp] theorem startTurn_txData (d : Direction) (m : Nibble) (s : State) : (startTurn d m s).txData = s.txData := rfl
@[simp] theorem startTurn_txStrobe (d : Direction) (m : Nibble) (s : State) : (startTurn d m s).txStrobe = s.txStrobe := rfl
@[simp] theorem startTurn_wire (d : Direction) (m : Nibble) (s : State) : (startTurn d m s).wire = s.wire := rfl
@[simp] theorem startTurn_due (d : Direction) (m : Nibble) (s : State) : (startTurn d m s).due = s.due := rfl
@[simp] theorem startTurn_envCount (d : Direction) (m : Nibble) (s : State) : (startTurn d m s).envCount = s.envCount := rfl

/-! ### `lowerStrobe` -/

@[simp] theorem lowerStrobe_cfg (s : State) : (lowerStrobe s).cfg = s.cfg := rfl
@[simp] theorem lowerStrobe_cntMsg (s : State) : (lowerStrobe s).cntMsg = s.cntMsg := rfl
@[simp] theorem lowerStrobe_cntTrig (s : State) : (lowerStrobe s).cntTrig = s.cntTrig := rfl
@[simp] theorem lowerStrobe_cntLed (s : State) : (lowerStrobe s).cntLed = s.cntLed := rfl
@[simp] theorem lowerStrobe_pulse (s : State) : (lowerStrobe s).pulse = s.pulse := rfl
@[simp] theorem lowerStrobe_distance (s : State) : (lowerStrobe s).distance = s.distance := rfl
@[simp] theorem lowerStrobe_ledPeriod (s : State) : (lowerStrobe s).ledPeriod = s.ledPeriod := rfl
@[simp] theorem lowerStrobe_mem (s : State) : (lowerStrobe s).mem = s.mem := rfl
@[simp] theorem lowerStrobe_holdCnt (s : State) : (lowerStrobe s).holdCnt = s.holdCnt := rfl
@[simp] theorem lowerStrobe_tD (s : State) : (lowerStrobe s).tD = s.tD := rfl
@[simp] theorem lowerStrobe_tCmd (s : State) : (lowerStrobe s).tCmd = s.tCmd := rfl
@[simp] theorem lowerStrobe_tMsg (s : State) : (lowerStrobe s).tMsg = s.tMsg := rfl
@[simp] theorem lowerStrobe_mlPc (s : State) : (lowerStrobe s).mlPc = s.mlPc := rfl
@[simp] theorem lowerStrobe_cursor (s : State) : (lowerStrobe s).cursor = s.cursor := rfl
@[simp] theorem lowerStrobe_echoReady (s : State) : (lowerStrobe s).echoReady = s.echoReady := rfl
@[simp] theorem lowerStrobe_cmdPresent (s : State) : (lowerStrobe s).cmdPresent = s.cmdPresent := rfl
@[simp] theorem lowerStrobe_led (s : State) : (lowerStrobe s).led = s.led := rfl
@[simp] theorem lowerStrobe_trig (s : State) : (lowerStrobe s).trig = s.trig := rfl
@[simp] theorem lowerStrobe_txState (s : State) : (lowerStrobe s).txState = s.txState := rfl
@[simp] theorem lowerStrobe_txOverrun (s : State) : (lowerStrobe s).txOverrun = s.txOverrun := rfl
@[simp] theorem lowerStrobe_cmdCode (s : State) : (lowerStrobe s).cmdCode = s.cmdCode := rfl
@[simp] theorem lowerStrobe_lastCmd (s : State) : (lowerStrobe s).lastCmd = s.lastCmd := rfl
@[simp] theorem lowerStrobe_dir (s : State) : (lowerStrobe s).dir = s.dir := rfl
@[simp] theorem lowerStrobe_dutyPct (s : State) : (lowerStrobe s).dutyPct = s.dutyPct := rfl
@[simp] theorem lowerStrobe_msgSel (s : State) : (lowerStrobe s).msgSel = s.msgSel := rfl
@[simp] theorem lowerStrobe_txData (s : State) : (lowerStrobe s).txData = s.txData := rfl
@[simp] theorem lowerStrobe_txStrobe (s : State) : (lowerStrobe s).txStrobe = false := rfl
@[simp] theorem lowerStrobe_wire (s : State) : (lowerStrobe s).wire = s.wire := rfl
@[simp] theorem lowerStrobe_due (s : State) : (lowerStrobe s).due = s.due := rfl
@[simp] theorem lowerStrobe_envCount (s : State) : (lowerStrobe s).envCount = s.envCount := rfl

/-! ### `step2TrigLow` -/

@[simp] theorem step2TrigLow_cfg (s : State) : (step2TrigLow s).cfg = s.cfg := rfl
@[simp] theorem step2TrigLow_cntMsg (s : State) : (step2TrigLow s).cntMsg = s.cntMsg := rfl
@[simp] theorem step2TrigLow_cntTrig (s : State) : (step2TrigLow s).cntTrig = s.cntTrig := rfl
@[simp] theorem step2TrigLow_cntLed (s : State) : (step2TrigLow s).cntLed = s.cntLed := rfl
@[simp] theorem step2TrigLow_pulse (s : State) : (step2TrigLow s).pulse = s.pulse := rfl
@[simp] theorem step2TrigLow_distance (s : State) : (step2TrigLow s).distance = s.distance := rfl
@[simp] theorem step2TrigLow_ledPeriod (s : State) : (step2TrigLow s).ledPeriod = s.ledPeriod := rfl
@[simp] theorem step2TrigLow_mem (s : State) : (step2TrigLow s).mem = s.mem := rfl
@[simp] theorem step2TrigLow_holdCnt (s : State) : (step2TrigLow s).holdCnt = s.holdCnt := rfl
@[simp] theorem step2TrigLow_tD (s : State) : (step2TrigLow s).tD = s.tD := rfl
@[simp] theorem step2TrigLow_tCmd (s : State) : (step2TrigLow s).tCmd = s.tCmd := rfl
@[simp] theorem step2TrigLow_tMsg (s : State) : (step2TrigLow s).tMsg = s.tMsg := rfl
@[simp] theorem step2TrigLow_mlPc (s : State) : (step2TrigLow s).mlPc = s.mlPc := rfl
@[simp] theorem step2TrigLow_cursor (s : State) : (step2TrigLow s).cursor = s.cursor := rfl
@[simp] theorem step2TrigLow_echoReady (s : State) : (step2TrigLow s).echoReady = s.echoReady := rfl
@[simp] theorem step2TrigLow_cmdPresent (s : State) : (step2TrigLow s).cmdPresent = s.cmdPresent := rfl
@[simp] theorem step2TrigLow_led (s : State) : (step2TrigLow s).led = s.led := rfl
@[simp] theorem step2TrigLow_trig (s : State) : (step2TrigLow s).trig = false := rfl
@[simp] theorem step2TrigLow_txState (s : State) : (step2TrigLow s).txState = s.txState := rfl
@[simp] theorem step2TrigLow_txOverrun (s : State) : (step2TrigLow s).txOverrun = s.txOverrun := rfl
@[simp] theorem step2TrigLow_cmdCode (s : State) : (step2TrigLow s).cmdCode = s.cmdCode := rfl
@[simp] theorem step2TrigLow_lastCmd (s : State) : (step2TrigLow s).lastCmd = s.lastCmd := rfl
@[simp] theorem step2TrigLow_dir (s : State) : (step2TrigLow s).dir = s.dir := rfl
@[simp] theorem step2TrigLow_dutyPct (s : State) : (step2TrigLow s).dutyPct = s.dutyPct := rfl
@[simp] theorem step2TrigLow_msgSel (s : State) : (step2TrigLow s).msgSel = s.msgSel := rfl
@[simp] theorem step2TrigLow_txData (s : State) : (step2TrigLow s).txData = s.txData := rfl
@[simp] theorem step2TrigLow_txStrobe (s : State) : (step2TrigLow s).txStrobe = s.txStrobe := rfl
@[simp] theorem step2TrigLow_wire (s : State) : (step2TrigLow s).wire = s.wire := rfl
@[simp] theorem step2TrigLow_due (s : State) : (step2TrigLow s).due = s.due := rfl
@[simp] theorem step2TrigLow_envCount (s : State) : (step2TrigLow s).envCount = s.envCount := rfl

/-! ### `submit` -/

@[simp] theorem submit_cfg (c : Byte) (s : State) : (submit c s).cfg = s.cfg := by
  unfold submit; split <;> rfl
@[simp] theorem submit_cntMsg (c : Byte) (s : State) : (submit c s).cntMsg = s.cntMsg := by
  unfold submit; split <;> rfl
@[simp] theorem submit_cntTrig (c : Byte) (s : State) : (submit c s).cntTrig = s.cntTrig := by
  unfold submit; split <;> rfl
@[simp] theorem submit_cntLed (c : Byte) (s : State) : (submit c s).cntLed = s.cntLed := by
  unfold submit; split <;> rfl
@[simp] theorem submit_pulse (c : Byte) (s : State) : (submit c s).pulse = s.pulse := by
  unfold submit; split <;> rfl
@[simp] theorem submit_distance (c : Byte) (s : State) : (submit c s).distance = s.distance := by
  unfold submit; split <;> rfl
@[simp] theorem submit_ledPeriod (c : Byte) (s : State) : (submit c s).ledPeriod = s.ledPeriod := by
  unfold submit; split <;> rfl
@[simp] theorem submit_mem (c : Byte) (s : State) : (submit c s).mem = s.mem := by
  unfold submit; split <;> rfl
@[simp] theorem submit_holdCnt (c : Byte) (s : State) : (submit c s).holdCnt = s.holdCnt := by
  unfold submit; split <;> rfl
@[simp] theorem submit_tD (c : Byte) (s : State) : (submit c s).tD = s.tD := by
  unfold submit; split <;> rfl
@[simp] theorem submit_tCmd (c : Byte) (s : State) : (submit c s).tCmd = s.tCmd := by
  unfold submit; split <;> rfl
@[simp] theorem submit_tMsg (c : Byte) (s : State) : (submit c s).tMsg = s.tMsg := by
  unfold submit; split <;> rfl
@[simp] theorem submit_mlPc (c : Byte) (s : State) : (submit c s).mlPc = s.mlPc := by
  unfold submit; split <;> rfl
@[simp] theorem submit_cursor (c : Byte) (s : State) : (submit c s).cursor = s.cursor := by
  unfold submit; split <;> rfl
@[simp] theorem submit_echoReady (c : Byte) (s : State) : (submit c s).echoReady = s.echoReady := by
  unfold submit; split <;> rfl
@[simp] theorem submit_cmdPresent (c : Byte) (s : State) : (submit c s).cmdPresent = true := by
  unfold submit; split <;> simp_all
@[simp] theorem submit_led (c : Byte) (s : State) : (submit c s).led = s.led := by
  unfold submit; split <;> rfl
@[simp] theorem submit_trig (c : Byte) (s : State) : (submit c s).trig = s.trig := by
  unfold submit; split <;> rfl
@[simp] theorem submit_txState (c : Byte) (s : State) : (submit c s).txState = s.txState := by
  unfold submit; split <;> rfl
@[simp] theorem submit_txOverrun (c : Byte) (s : State) : (submit c s).txOverrun = s.txOverrun := by
  unfold submit; split <;> rfl
@[simp] theorem submit_cmdCode (c : Byte) (s : State) : (submit c s).cmdCode = if s.cmdPresent then s.cmdCode else c := by
  unfold submit; split <;> simp_all
@[simp] theorem submit_lastCmd (c : Byte) (s : State) : (submit c s).lastCmd = s.lastCmd := by
  unfold submit; split <;> rfl
@[simp] theorem submit_dir (c : Byte) (s : State) : (submit c s).dir = s.dir := by
  unfold submit; split <;> rfl
@[simp] theorem submit_dutyPct (c : Byte) (s : State) : (submit c s).dutyPct = s.dutyPct := by
  unfold submit; split <;> rfl
@[simp] theorem submit_msgSel (c : Byte) (s : State) : (submit c s).msgSel = s.msgSel := by
  unfold submit; split <;> rfl
@[simp] theorem submit_txData (c : Byte) (s : State) : (submit c s).txData = s.txData := by
  unfold submit; split <;> rfl
@[simp] theorem submit_txStrobe (c : Byte) (s : State) : (submit c s).txStrobe = s.txStrobe := by
  unfold submit; split <;> rfl
@[simp] theorem submit_wire (c : Byte) (s : State) : (submit c s).wire = s.wire := by
  unfold submit; split <;> rfl
@[simp] theorem submit_due (c : Byte) (s : State) : (submit c s).due = s.due := by
  unfold submit; split <;> rfl
@[simp] theorem submit_envCount (c : Byte) (s : State) : (submit c s).envCount = s.envCount := by
  unfold submit; split <;> rfl

/-! ### `step1Pulse` -/

@[simp] theorem step1Pulse_cfg (s : State) : (step1Pulse s).cfg = s.cfg := by
  unfold step1Pulse; split <;> rfl
@[simp] theorem step1Pulse_cntMsg (s : State) : (step1Pulse s).cntMsg = s.cntMsg := by
  unfold step1Pulse; split <;> rfl
@[simp] theorem step1Pulse_cntTrig (s : State) : (step1Pulse s).cntTrig = s.cntTrig := by
  unfold step1Pulse; split <;> rfl
@[simp] theorem step1Pulse_cntLed (s : State) : (step1Pulse s).cntLed = s.cntLed := by
  unfold step1Pulse; split <;> rfl
@[simp] theorem step1Pulse_pulse (s : State) : (step1Pulse s).pulse = if s.echoReady then s.pulse else s.pulse + 1#16 := by
  unfold step1Pulse; split <;> simp_all
@[simp] theorem step1Pulse_distance (s : State) : (step1Pulse s).distance = s.distance := by
  unfold step1Pulse; split <;> rfl
@[simp] theorem step1Pulse_ledPeriod (s : State) : (step1Pulse s).ledPeriod = s.ledPeriod := by
  unfold step1Pulse; split <;> rfl
@[simp] theorem step1Pulse_mem (s : State) : (step1Pulse s).mem = s.mem := by
  unfold step1Pulse; split <;> rfl
@[simp] theorem step1Pulse_holdCnt (s : State) : (step1Pulse s).holdCnt = s.holdCnt := by
  unfold step1Pulse; split <;> rfl
@[simp] theorem step1Pulse_tD (s : State) : (step1Pulse s).tD = s.tD := by
  unfold step1Pulse; split <;> rfl
@[simp] theorem step1Pulse_tCmd (s : State) : (step1Pulse s).tCmd = s.tCmd := by
  unfold step1Pulse; split <;> rfl
@[simp] theorem step1Pulse_tMsg (s : State) : (step1Pulse s).tMsg = s.tMsg := by
  unfold step1Pulse; split <;> rfl
@[simp] theorem step1Pulse_mlPc (s : State) : (step1Pulse s).mlPc = s.mlPc := by
  unfold step1Pulse; split <;> rfl
@[simp] theorem step1Pulse_cursor (s : State) : (step1Pulse s).cursor = s.cursor := by
  unfold step1Pulse; split <;> rfl
@[simp] theorem step1Pulse_echoReady (s : State) : (step1Pulse s).echoReady = s.echoReady := by
  unfold step1Pulse; split <;> rfl
@[simp] theorem step1Pulse_cmdPresent (s : State) : (step1Pulse s).cmdPresent = s.cmdPresent := by
  unfold step1Pulse; split <;> rfl
@[simp] theorem step1Pulse_led (s : State) : (step1Pulse s).led = s.led := by
  unfold step1Pulse; split <;> rfl
@[simp] theorem step1Pulse_trig (s : State) : (step1Pulse s).trig = s.trig := by
  unfold step1Pulse; split <;> rfl
@[simp] theorem step1Pulse_txState (s : State) : (step1Pulse s).txState = s.txState := by
  unfold step1Pulse; split <;> rfl
@[simp] theorem step1Pulse_txOverrun (s : State) : (step1Pulse s).txOverrun = s.txOverrun := by
  unfold step1Pulse; split <;> rfl
@[simp] theorem step1Pulse_cmdCode (s : State) : (step1Pulse s).cmdCode = s.cmdCode := by
  unfold step1Pulse; split <;> rfl
@[simp] theorem step1Pulse_lastCmd (s : State) : (step1Pulse s).lastCmd = s.lastCmd := by
  unfold step1Pulse; split <;> rfl
@[simp] theorem step1Pulse_dir (s : State) : (step1Pulse s).dir = s.dir := by
  unfold step1Pulse; split <;> rfl
@[simp] theorem step1Pulse_dutyPct (s : State) : (step1Pulse s).dutyPct = s.dutyPct := by
  unfold step1Pulse; split <;> rfl
@[simp] theorem step1Pulse_msgSel (s : State) : (step1Pulse s).msgSel = s.msgSel := by
  unfold step1Pulse; split <;> rfl
@[simp] theorem step1Pulse_txData (s : State) : (step1Pulse s).txData = s.txData := by
  unfold step1Pulse; split <;> rfl
@[simp] theorem step1Pulse_txStrobe (s : State) : (step1Pulse s).txStrobe = s.txStrobe := by
  unfold step1Pulse; split <;> rfl
@[simp] theorem step1Pulse_wire (s : State) : (step1Pulse s).wire = s.wire := by
  unfold step1Pulse; split <;> rfl
@[simp] theorem step1Pulse_due (s : State) : (step1Pulse s).due = s.due := by
  unfold step1Pulse; split <;> rfl
@[simp] theorem step1Pulse_envCount (s : State) : (step1Pulse s).envCount = s.envCount := by
  unfold step1Pulse; split <;> rfl

/-! ### `step4Trigger` -/

@[simp] theorem step4Trigger_cfg (s : State) : (step4Trigger s).cfg = s.cfg := by
  unfold step4Trigger; split <;> rfl
@[simp] theorem step4Trigger_cntMsg (s : State) : (step4Trigger s).cntMsg = s.cntMsg := by
  unfold step4Trigger; split <;> rfl
@[simp] theorem step4Trigger_cntTrig (s : State) : (step4Trigger s).cntTrig = if periodReached (s.cntTrig.toNat + 1) s.cfg.pTrig then 0#16 else s.cntTrig + 1#16 := by
  unfold step4Trigger; split <;> simp_all
@[simp] theorem step4Trigger_cntLed (s : State) : (step4Trigger s).cntLed = s.cntLed := by
  unfold step4Trigger; split <;> rfl
@[simp] theorem step4Trigger_pulse (s : State) : (step4Trigger s).pulse = s.pulse := by
  unfold step4Trigger; split <;> rfl
@[simp] theorem step4Trigger_distance (s : State) : (step4Trigger s).distance = s.distance := by
  unfold step4Trigger; split <;> rfl
@[simp] theorem step4Trigger_ledPeriod (s : State) : (step4Trigger s).ledPeriod = s.ledPeriod := by
  unfold step4Trigger; split <;> rfl
@[simp] theorem step4Trigger_mem (s : State) : (step4Trigger s).mem = s.mem := by
  unfold step4Trigger; split <;> rfl
@[simp] theorem step4Trigger_holdCnt (s : State) : (step4Trigger s).holdCnt = s.holdCnt := by
  unfold step4Trigger; split <;> rfl
@[simp] theorem step4Trigger_tD (s : State) : (step4Trigger s).tD = s.tD := by
  unfold step4Trigger; split <;> rfl
@[simp] theorem step4Trigger_tCmd (s : State) : (step4Trigger s).tCmd = s.tCmd := by
  unfold step4Trigger; split <;> rfl
@[simp] theorem step4Trigger_tMsg (s : State) : (step4Trigger s).tMsg = s.tMsg := by
  unfold step4Trigger; split <;> rfl
@[simp] theorem step4Trigger_mlPc (s : State) : (step4Trigger s).mlPc = s.mlPc := by
  unfold step4Trigger; split <;> rfl
@[simp] theorem step4Trigger_cursor (s : State) : (step4Trigger s).cursor = s.cursor := by
  unfold step4Trigger; split <;> rfl
@[simp] theorem step4Trigger_echoReady (s : State) : (step4Trigger s).echoReady = s.echoReady := by
  unfold step4Trigger; split <;> rfl
@[simp] theorem step4Trigger_cmdPresent (s : State) : (step4Trigger s).cmdPresent = s.cmdPresent := by
  unfold step4Trigger; split <;> rfl
@[simp] theorem step4Trigger_led (s : State) : (step4Trigger s).led = s.led := by
  unfold step4Trigger; split <;> rfl
@[simp] theorem step4Trigger_trig (s : State) : (step4Trigger s).trig = if periodReached (s.cntTrig.toNat + 1) s.cfg.pTrig then true else s.trig := by
  unfold step4Trigger; split <;> simp_all
@[simp] theorem step4Trigger_txState (s : State) : (step4Trigger s).txState = s.txState := by
  unfold step4Trigger; split <;> rfl
@[simp] theorem step4Trigger_txOverrun (s : State) : (step4Trigger s).txOverrun = s.txOverrun := by
  unfold step4Trigger; split <;> rfl
@[simp] theorem step4Trigger_cmdCode (s : State) : (step4Trigger s).cmdCode = s.cmdCode := by
  unfold step4Trigger; split <;> rfl
@[simp] theorem step4Trigger_lastCmd (s : State) : (step4Trigger s).lastCmd = s.lastCmd := by
  unfold step4Trigger; split <;> rfl
@[simp] theorem step4Trigger_dir (s : State) : (step4Trigger s).dir = s.dir := by
  unfold step4Trigger; split <;> rfl
@[simp] theorem step4Trigger_dutyPct (s : State) : (step4Trigger s).dutyPct = s.dutyPct := by
  unfold step4Trigger; split <;> rfl
@[simp] theorem step4Trigger_msgSel (s : State) : (step4Trigger s).msgSel = s.msgSel := by
  unfold step4Trigger; split <;> rfl
@[simp] theorem step4Trigger_txData (s : State) : (step4Trigger s).txData = s.txData := by
  unfold step4Trigger; split <;> rfl
@[simp] theorem step4Trigger_txStrobe (s : State) : (step4Trigger s).txStrobe = s.txStrobe := by
  unfold step4Trigger; split <;> rfl
@[simp] theorem step4Trigger_wire (s : State) : (step4Trigger s).wire = s.wire := by
  unfold step4Trigger; split <;> rfl
@[simp] theorem step4Trigger_due (s : State) : (step4Trigger s).due = s.due := by
  unfold step4Trigger; split <;> rfl
@[simp] theorem step4Trigger_envCount (s : State) : (step4Trigger s).envCount = s.envCount := by
  unfold step4Trigger; split <;> rfl

/-! ### `step5Led` -/

@[simp] theorem step5Led_cfg (s : State) : (step5Led s).cfg = s.cfg := by
  unfold step5Led; split <;> rfl
@[simp] theorem step5Led_cntMsg (s : State) : (step5Led s).cntMsg = s.cntMsg := by
  unfold step5Led; split <;> rfl
@[simp] theorem step5Led_cntTrig (s : State) : (step5Led s).cntTrig = s.cntTrig := by
  unfold step5Led; split <;> rfl
@[simp] theorem step5Led_cntLed (s : State) : (step5Led s).cntLed = if periodReached (s.cntLed.toNat + 1) s.ledPeriod.toNat then 0#32 else s.cntLed + 1#32 := by
  unfold step5Led; split <;> simp_all
@[simp] theorem step5Led_pulse (s : State) : (step5Led s).pulse = s.pulse := by
  unfold step5Led; split <;> rfl
@[simp] theorem step5Led_distance (s : State) : (step5Led s).distance = s.distance := by
  unfold step5Led; split <;> rfl
@[simp] theorem step5Led_ledPeriod (s : State) : (step5Led s).ledPeriod = s.ledPeriod := by
  unfold step5Led; split <;> rfl
@[simp] theorem step5Led_mem (s : State) : (step5Led s).mem = s.mem := by
  unfold step5Led; split <;> rfl
@[simp] theorem step5Led_holdCnt (s : State) : (step5Led s).holdCnt = s.holdCnt := by
  unfold step5Led; split <;> rfl
@[simp] theorem step5Led_tD (s : State) : (step5Led s).tD = s.tD := by
  unfold step5Led; split <;> rfl
@[simp] theorem step5Led_tCmd (s : State) : (step5Led s).tCmd = s.tCmd := by
  unfold step5Led; split <;> rfl
@[simp] theorem step5Led_tMsg (s : State) : (step5Led s).tMsg = s.tMsg := by
  unfold step5Led; split <;> rfl
@[simp] theorem step5Led_mlPc (s : State) : (step5Led s).mlPc = s.mlPc := by
  unfold step5Led; split <;> rfl
@[simp] theorem step5Led_cursor (s : State) : (step5Led s).cursor = s.cursor := by
  unfold step5Led; split <;> rfl
@[simp] theorem step5Led_echoReady (s : State) : (step5Led s).echoReady = s.echoReady := by
  unfold step5Led; split <;> rfl
@[simp] theorem step5Led_cmdPresent (s : State) : (step5Led s).cmdPresent = s.cmdPresent := by
  unfold step5Led; split <;> rfl
@[simp] theorem step5Led_led (s : State) : (step5Led s).led = if periodReached (s.cntLed.toNat + 1) s.ledPeriod.toNat then (if nearObstacle s then true else !s.led) else s.led := by
  unfold step5Led; split <;> simp_all
@[simp] theorem step5Led_trig (s : State) : (step5Led s).trig = s.trig := by
  unfold step5Led; split <;> rfl
@[simp] theorem step5Led_txState (s : State) : (step5Led s).txState = s.txState := by
  unfold step5Led; split <;> rfl
@[simp] theorem step5Led_txOverrun (s : State) : (step5Led s).txOverrun = s.txOverrun := by
  unfold step5Led; split <;> rfl
@[simp] theorem step5Led_cmdCode (s : State) : (step5Led s).cmdCode = s.cmdCode := by
  unfold step5Led; split <;> rfl
@[simp] theorem step5Led_lastCmd (s : State) : (step5Led s).lastCmd = s.lastCmd := by
  unfold step5Led; split <;> rfl
@[simp] theorem step5Led_dir (s : State) : (step5Led s).dir = s.dir := by
  unfold step5Led; split <;> rfl
@[simp] theorem step5Led_dutyPct (s : State) : (step5Led s).dutyPct = s.dutyPct := by
  unfold step5Led; split <;> rfl
@[simp] theorem step5Led_msgSel (s : State) : (step5Led s).msgSel = s.msgSel := by
  unfold step5Led; split <;> rfl
@[simp] theorem step5Led_txData (s : State) : (step5Led s).txData = s.txData := by
  unfold step5Led; split <;> rfl
@[simp] theorem step5Led_txStrobe (s : State) : (step5Led s).txStrobe = s.txStrobe := by
  unfold step5Led; split <;> rfl
@[simp] theorem step5Led_wire (s : State) : (step5Led s).wire = s.wire := by
  unfold step5Led; split <;> rfl
@[simp] theorem step5Led_due (s : State) : (step5Led s).due = s.due := by
  unfold step5Led; split <;> rfl
@[simp] theorem step5Led_envCount (s : State) : (step5Led s).envCount = s.envCount := by
  unfold step5Led; split <;> rfl

/-! ### `holdTimer` -/

@[simp] theorem holdTimer_cfg (s : State) : (holdTimer s).cfg = s.cfg := by
  unfold holdTimer; split <;> rfl
@[simp] theorem holdTimer_cntMsg (s : State) : (holdTimer s).cntMsg = s.cntMsg := by
  unfold holdTimer; split <;> rfl
@[simp] theorem holdTimer_cntTrig (s : State) : (holdTimer s).cntTrig = s.cntTrig := by
  unfold holdTimer; split <;> rfl
@[simp] theorem holdTimer_cntLed (s : State) : (holdTimer s).cntLed = s.cntLed := by
  unfold holdTimer; split <;> rfl
@[simp] theorem holdTimer_pulse (s : State) : (holdTimer s).pulse = s.pulse := by
  unfold holdTimer; split <;> rfl
@[simp] theorem holdTimer_distance (s : State) : (holdTimer s).distance = s.distance := by
  unfold holdTimer; split <;> rfl
@[simp] theorem holdTimer_ledPeriod (s : State) : (holdTimer s).ledPeriod = s.ledPeriod := by
  unfold holdTimer; split <;> rfl
@[simp] theorem holdTimer_mem (s : State) : (holdTimer s).mem = s.mem := by
  unfold holdTimer; split <;> rfl
@[simp] theorem holdTimer_holdCnt (s : State) : (holdTimer s).holdCnt = if s.holdCnt = 0#16 then s.holdCnt else s.holdCnt - 1#16 := by
  unfold holdTimer; split <;> simp_all
@[simp] theorem holdTimer_tD (s : State) : (holdTimer s).tD = s.tD := by
  unfold holdTimer; split <;> rfl
@[simp] theorem holdTimer_tCmd (s : State) : (holdTimer s).tCmd = s.tCmd := by
  unfold holdTimer; split <;> rfl
@[simp] theorem holdTimer_tMsg (s : State) : (holdTimer s).tMsg = s.tMsg := by
  unfold holdTimer; split <;> rfl
@[simp] theorem holdTimer_mlPc (s : State) : (holdTimer s).mlPc = s.mlPc := by
  unfold holdTimer; split <;> rfl
@[simp] theorem holdTimer_cursor (s : State) : (holdTimer s).cursor = s.cursor := by
  unfold holdTimer; split <;> rfl
@[simp] theorem holdTimer_echoReady (s : State) : (holdTimer s).echoReady = s.echoReady := by
  unfold holdTimer; split <;> rfl
@[simp] theorem holdTimer_cmdPresent (s : State) : (holdTimer s).cmdPresent = s.cmdPresent := by
  unfold holdTimer; split <;> rfl
@[simp] theorem holdTimer_led (s : State) : (holdTimer s).led = s.led := by
  unfold holdTimer; split <;> rfl
@[simp] theorem holdTimer_trig (s : State) : (holdTimer s).trig = s.trig := by
  unfold holdTimer; split <;> rfl
@[simp] theorem holdTimer_txState (s : State) : (holdTimer s).txState = s.txState := by
  unfold holdTimer; split <;> rfl
@[simp] theorem holdTimer_txOverrun (s : State) : (holdTimer s).txOverrun = s.txOverrun := by
  unfold holdTimer; split <;> rfl
@[simp] theorem holdTimer_cmdCode (s : State) : (holdTimer s).cmdCode = s.cmdCode := by
  unfold holdTimer; split <;> rfl
@[simp] theorem holdTimer_lastCmd (s : State) : (holdTimer s).lastCmd = s.lastCmd := by
  unfold holdTimer; split <;> rfl
@[simp] theorem holdTimer_dir (s : State) : (holdTimer s).dir = s.dir := by
  unfold holdTimer; split <;> rfl
@[simp] theorem holdTimer_dutyPct (s : State) : (holdTimer s).dutyPct = s.dutyPct := by
  unfold holdTimer; split <;> rfl
@[simp] theorem holdTimer_msgSel (s : State) : (holdTimer s).msgSel = s.msgSel := by
  unfold holdTimer; split <;> rfl
@[simp] theorem holdTimer_txData (s : State) : (holdTimer s).txData = s.txData := by
  unfold holdTimer; split <;> rfl
@[simp] theorem holdTimer_txStrobe (s : State) : (holdTimer s).txStrobe = s.txStrobe := by
  unfold holdTimer; split <;> rfl
@[simp] theorem holdTimer_wire (s : State) : (holdTimer s).wire = s.wire := by
  unfold holdTimer; split <;> rfl
@[simp] theorem holdTimer_due (s : State) : (holdTimer s).due = s.due := by
  unfold holdTimer; split <;> rfl
@[simp] theorem holdTimer_envCount (s : State) : (holdTimer s).envCount = s.envCount := by
  unfold holdTimer; split <;> rfl

end Sys2Proof.Machine
end

