-- ==== Sys2Proof/Laws/Ops.lean ====
section
/-! SUPPORT. What the shared operations and the step can do, said once (spec/41 to 47): one lemma per operation, cited
by later proofs instead of unfolding it. -/

namespace Sys2Proof.Machine

/-! ### Submitting (R151) -/

theorem submit_full {c : Byte} {s : State} (h : s.cmdPresent = true) : submit c s = s := by
  simp [submit, h]

theorem submit_empty {c : Byte} {s : State} (h : s.cmdPresent = false) :
    submit c s = { s with cmdCode := c, cmdPresent := true } := by
  simp [submit, h]

/-! ### Message reads (R62) -/

/-- A read is a byte exactly on an address of the message space whose digit, if it is one, is an ASCII digit. -/
theorem memRead_ok_of {s : State} {m : Nibble} {i : Nat} (hm : m.toNat < 10) (hi : i < rowLen s.cfg m)
    (hd : m.toNat = 9 → i < 3 → isAsciiDigit (digit s i) = true) : ∃ b, memRead s m i = .ok b := by
  unfold memRead rowLen at *
  rw [if_neg (by omega)]
  cases hrow : s.cfg.msgRom[m.toNat]? with
  | none => simp [hrow] at hi
  | some row =>
    simp only [hrow, Option.getD_some] at hi
    simp only [List.getElem?_eq_getElem hi]
    split
    · next h => exact ⟨digit s i, by rw [if_pos (hd h.1 h.2)]⟩
    · exact ⟨_, rfl⟩

theorem msgLen_ok_of {s : State} {m : Nibble} (hm : m.toNat < 10) (hpos : 0 < rowLen s.cfg m) :
    msgLen s m = .ok (rowLen s.cfg m) := by
  unfold msgLen rowLen at *
  rw [if_neg (by omega)]
  cases hrow : s.cfg.msgRom[m.toNat]? with
  | none => simp [hrow] at hpos
  | some row => rfl

/-- Under R63 every message has 2 to 256 bytes. -/
theorem rowLen_bounds {c : Config} (h : c.romShape) {m : Nibble} (hm : m.toNat < 10) :
    2 ≤ rowLen c m ∧ rowLen c m ≤ 256 := by
  obtain ⟨hlen, hrows, -⟩ := h
  have hlt : m.toNat < c.msgRom.length := by omega
  simpa [rowLen, List.getElem?_eq_getElem hlt] using hrows _ (List.getElem_mem hlt)

/-! ### The arithmetic of the estimator (R132, R133, R136) -/

theorem quotient_of_ne_zero {d : Nat} (n : Nat) (h : d ≠ 0) : quotient n d = n / d := if_neg h

theorem wrappedDifference_of_le {dist off : Nat} (h : off ≤ dist + 65536) :
    wrappedDifference dist off = (dist + 65536 - off) % 65536 := if_pos h

/-- R132 with the document's constants. -/
theorem distanceOf_document {c : Config} (h : c.documentConstants) (d : Nat) : distanceOf c d = 17150 * d / 20000 := by
  obtain ⟨-, -, -, hnum, hden, -, -, -⟩ := h
  unfold distanceOf
  rw [hnum, hden, quotient_of_ne_zero _ (by decide)]

/-- R133 with the document's constants. -/
theorem ledPeriodOf_clamp {c : Config} (h : c.documentConstants) (hp : c.ledLowPolicy = .clamp) (dist : Nat) :
    ledPeriodOf c dist = (dist - 15) * 200 / 3 := by
  obtain ⟨-, -, -, -, -, hoff, hmul, hdiv⟩ := h
  simp only [ledPeriodOf, hp, hoff, hmul, hdiv, quotient_of_ne_zero _ (show 3 ≠ 0 by decide)]

/-- R136 with the document's constants. -/
theorem ledPeriodOf_wrap16 {c : Config} (h : c.documentConstants) (hp : c.ledLowPolicy = .wrap16) (dist : Nat) :
    ledPeriodOf c dist = if dist < 15 then (dist + 65536 - 15) % 65536 * 200 / 3 else (dist - 15) * 200 / 3 := by
  obtain ⟨-, -, -, -, -, hoff, hmul, hdiv⟩ := h
  simp only [ledPeriodOf, hp, hoff, hmul, hdiv, quotient_of_ne_zero _ (show 3 ≠ 0 by decide),
    wrappedDifference_of_le (show 15 ≤ dist + 65536 by omega)]

/-! ### The tick (R100) -/

/-- Action 3 either counts, or resends byte 0 and zeroes the counter, or meets the fault of that read (R103). -/
theorem step3Resend_cases (s : State) :
    (periodReached (s.cntMsg.toNat + 1) s.cfg.pMsg = false ∧
        step3Resend s = .ok (countResend s)) ∨
      (periodReached (s.cntMsg.toNat + 1) s.cfg.pMsg = true ∧ ∃ b, memRead s s.msgSel 0 = .ok b ∧
        step3Resend s = .ok (zeroResend (txWrite b s))) ∨
      (periodReached (s.cntMsg.toNat + 1) s.cfg.pMsg = true ∧ ∃ f, memRead s s.msgSel 0 = .error f ∧
        step3Resend s = .error f) := by
  unfold step3Resend
  cases hp : periodReached (s.cntMsg.toNat + 1) s.cfg.pMsg
  · exact .inl ⟨rfl, by simp⟩
  · refine .inr ?_
    cases hr : memRead s s.msgSel 0 with
    | ok b => exact .inl ⟨rfl, b, rfl, by simp⟩
    | error f => exact .inr ⟨rfl, f, rfl, by simp⟩

/-- The state `TICK` hands to action 3: actions 1 and 2 (R101, R102). -/
abbrev beforeResend (s : State) : State := step2TrigLow (step1Pulse s)

/-- Everything `TICK` can do (R100): count on without a resend, or with one; or stop at the fault of the read. -/
theorem exec_tick_cases (s : State) :
    (periodReached (s.cntMsg.toNat + 1) s.cfg.pMsg = false ∧
        exec .tick s =
          .next (holdTimer (step5Led (step4Trigger (countResend (beforeResend s)))))) ∨
      (periodReached (s.cntMsg.toNat + 1) s.cfg.pMsg = true ∧ ∃ b, memRead s s.msgSel 0 = .ok b ∧
        exec .tick s =
          .next (holdTimer (step5Led (step4Trigger (zeroResend (txWrite b (beforeResend s))))))) ∨
      (periodReached (s.cntMsg.toNat + 1) s.cfg.pMsg = true ∧ ∃ f, memRead s s.msgSel 0 = .error f ∧
        exec .tick s = .fault f) := by
  have hread : memRead (beforeResend s) s.msgSel 0 = memRead s s.msgSel 0 :=
    memRead_congr (by simp) (by simp) _ _
  have hx : exec .tick s =
      match step3Resend (beforeResend s) with
      | .ok t => .next (holdTimer (step5Led (step4Trigger t)))
      | .error f => .fault f := rfl
  rcases step3Resend_cases (beforeResend s) with ⟨hp, h⟩ | ⟨hp, b, hb, h⟩ | ⟨hp, f, hf, h⟩
  · exact .inl ⟨by simpa using hp, by rw [hx, h]⟩
  · exact .inr (.inl ⟨by simpa using hp, b, by rw [← hread]; simpa using hb, by rw [hx, h]⟩)
  · exact .inr (.inr ⟨by simpa using hp, f, by rw [← hread]; simpa using hf, by rw [hx, h]⟩)

/-- What a completed `TICK` has done: a resend or a count in action 3, then actions 4 and 5 and the hold timer. -/
theorem exec_tick_inv {s t : State} (h : exec .tick s = .next t) :
    ∃ u : State, t = holdTimer (step5Led (step4Trigger u)) ∧
      ((periodReached (s.cntMsg.toNat + 1) s.cfg.pMsg = false ∧
          u = countResend (beforeResend s)) ∨
        (periodReached (s.cntMsg.toNat + 1) s.cfg.pMsg = true ∧ ∃ b, memRead s s.msgSel 0 = .ok b ∧
          u = zeroResend (txWrite b (beforeResend s)))) := by
  rcases exec_tick_cases s with ⟨hp, h'⟩ | ⟨hp, b, hb, h'⟩ | ⟨hp, f, hf, h'⟩
  · rw [h'] at h; simp only [Host.Outcome.next.injEq] at h; exact ⟨_, h.symm, .inl ⟨hp, rfl⟩⟩
  · rw [h'] at h; simp only [Host.Outcome.next.injEq] at h; exact ⟨_, h.symm, .inr ⟨hp, b, hb, rfl⟩⟩
  · rw [h'] at h; simp at h

/-! ### The transmit-complete handler (R162, R163) -/

theorem exec_txc_idle {s : State} (h : s.txState = .idle) : exec .txc s = .next s := by
  simp [exec, execTxc, txcEnabled, h]

theorem exec_txc_last {s : State} {len : Nat} (h : s.txState = .sending) (hlen : msgLen s s.msgSel = .ok len)
    (hc : s.cursor.toNat + 1 = len) : exec .txc s = .next (byteSent 0#8 s) := by
  simp [exec, execTxc, txcEnabled, h, txComplete, hlen, hc, finish]

theorem exec_txc_more {s : State} {len : Nat} {b : Byte} (h : s.txState = .sending) (hlen : msgLen s s.msgSel = .ok len)
    (hc : s.cursor.toNat + 1 ≠ len) (hb : memRead s s.msgSel (s.cursor.toNat + 1) = .ok b) :
    exec .txc s = .next (txWrite b (byteSent (s.cursor + 1#8) s)) := by
  simp [exec, execTxc, txcEnabled, h, txComplete, hlen, hc, hb, finish]

/-- What a completed `TXC` has done: nothing in `Idle`; in `Sending` the end of the message or the next byte. -/
theorem exec_txc_inv {s t : State} (h : exec .txc s = .next t) :
    (s.txState = .idle ∧ t = s) ∨
      (s.txState = .sending ∧ msgLen s s.msgSel = .ok (s.cursor.toNat + 1) ∧
        t = byteSent 0#8 s) ∨
      (s.txState = .sending ∧ msgLen s s.msgSel ≠ .ok (s.cursor.toNat + 1) ∧
        ∃ b, memRead s s.msgSel (s.cursor.toNat + 1) = .ok b ∧
          t = txWrite b (byteSent (s.cursor + 1#8) s)) := by
  cases hs : s.txState with
  | idle => rw [exec_txc_idle hs] at h; simp only [Host.Outcome.next.injEq] at h; exact .inl ⟨rfl, h.symm⟩
  | sending =>
    cases hlen : msgLen s s.msgSel with
    | error f => simp [exec, execTxc, txcEnabled, hs, txComplete, hlen, finish] at h
    | ok len =>
      by_cases hc : s.cursor.toNat + 1 = len
      · rw [exec_txc_last hs hlen hc] at h
        simp only [Host.Outcome.next.injEq] at h
        exact .inr (.inl ⟨rfl, by rw [hc], h.symm⟩)
      · cases hb : memRead s s.msgSel (s.cursor.toNat + 1) with
        | error f => simp [exec, execTxc, txcEnabled, hs, txComplete, hlen, hc, hb, finish] at h
        | ok b =>
          rw [exec_txc_more hs hlen hc hb] at h
          simp only [Host.Outcome.next.injEq] at h
          exact .inr (.inr ⟨rfl, by simpa using Ne.symm hc, b, rfl, h.symm⟩)

/-- What a completed `SEL` has done (R165). -/
theorem exec_sel_inv {s t : State} (h : exec .sel s = .next t) :
    ∃ b, memRead s s.tMsg 0 = .ok b ∧
      t = goTo pcPollEcho (zeroResend (txWrite b (selectMessage s.tMsg s))) := by
  simp only [exec, execSel] at h
  cases hb : memRead s s.tMsg 0 with
  | error f => simp [hb] at h
  | ok b => simp only [hb, Host.Outcome.next.injEq] at h; exact ⟨b, rfl, h.symm⟩

/-! ### `EXEC` and `MAIN` act as one of their rows (R191, R211) -/

theorem exec_exec_as_command (s : State) : ∃ i : Instr, i.format = .cmd ∧ exec .exec s = exec i s := by
  simp only [exec, execExec]
  split; · exact ⟨.fwd, rfl, rfl⟩
  split; · exact ⟨.back, rfl, rfl⟩
  split; · exact ⟨.stop, rfl, rfl⟩
  split; · exact ⟨.obst, rfl, rfl⟩
  split; · exact ⟨.ccw, rfl, rfl⟩
  split; · exact ⟨.cw, rfl, rfl⟩
  split; · exact ⟨.report, rfl, rfl⟩
  split; · exact ⟨.spd70, rfl, rfl⟩
  split; · exact ⟨.spd80, rfl, rfl⟩
  split; · exact ⟨.spd100, rfl, rfl⟩
  exact ⟨.unknown s.tCmd, rfl, rfl⟩

theorem exec_main_as_step (s : State) :
    (∃ i : Instr, i.format = .mls ∧ exec .main s = exec i s) ∨ exec .main s = .fault .reservedMainStep := by
  simp only [exec, execMain]
  split
  · exact .inl ⟨.pollEcho, rfl, rfl⟩
  · exact .inl ⟨.estLoad, rfl, rfl⟩
  · exact .inl ⟨.estDist, rfl, rfl⟩
  · exact .inl ⟨.estLed, rfl, rfl⟩
  · exact .inl ⟨.estFmt, rfl, rfl⟩
  · exact .inl ⟨.pollObst, rfl, rfl⟩
  · exact .inl ⟨.pollCmd, rfl, rfl⟩
  · exact .inl ⟨.exec, rfl, rfl⟩
  · exact .inl ⟨.turnHold, rfl, rfl⟩
  · exact .inl ⟨.turnEnd, rfl, rfl⟩
  · exact .inl ⟨.sel, rfl, rfl⟩
  · exact .inr rfl

/-! ### Running events in order (R71, R92) -/

theorem deliver_nil (s : State) : deliver [] s = .next s := rfl

theorem deliver_cons_next {i : Instr} {rest : List Instr} {s t : State} (h : exec i (lowerStrobe s) = .next t) :
    deliver (i :: rest) s = deliver rest t := by
  simp [deliver, h]

/-- A run of a joined sequence is the run of its second part from where the first part ends. -/
theorem deliver_append {es fs : List Instr} {s t : State} (h : deliver es s = .next t) :
    deliver (es ++ fs) s = deliver fs t := by
  induction es generalizing s with
  | nil => simp only [deliver, Host.Outcome.next.injEq] at h; subst h; rfl
  | cons i rest ih =>
    simp only [deliver, List.cons_append] at h ⊢
    cases hx : exec i (lowerStrobe s) with
    | next u => simp only [hx] at h ⊢; exact ih h
    | fault f => simp [hx] at h
    | refused r => simp [hx] at h

/-- A completed run is a completed first operation and a completed rest. -/
theorem deliver_cons_inv {i : Instr} {rest : List Instr} {s t : State} (h : deliver (i :: rest) s = .next t) :
    ∃ u, exec i (lowerStrobe s) = .next u ∧ deliver rest u = .next t := by
  simp only [deliver] at h
  cases hx : exec i (lowerStrobe s) with
  | next u => exact ⟨u, rfl, by simpa [hx] using h⟩
  | fault f => simp [hx] at h
  | refused r => simp [hx] at h

/-! ### One step (R12) -/

/-- Everything a step can do: run the operation of the next event, or refuse a reserved event. -/
theorem step_cases (s : State) :
    (∃ i, decodeEvt (fetchEvent s).1 = .ok i ∧ step s = exec i (lowerStrobe (fetchEvent s).2)) ∨
      (∃ e, decodeEvt (fetchEvent s).1 = .error e ∧ step s = .refused .reservedEvent) := by
  unfold step
  cases h : decodeEvt (fetchEvent s).1 with
  | ok i => exact .inl ⟨i, rfl, rfl⟩
  | error e => exact .inr ⟨e, rfl, rfl⟩

end Sys2Proof.Machine
end

