-- ==== Sys2Proof/Laws/PerInstr.lean ====
section
/-! SUPPORT. A statement about every operation, one lemma per constructor: the encoder writes an operation in the format
its opcode-table row has (spec/30_encoding.md R80). -/

namespace Sys2Proof.Laws.FormatAgrees

/-- The word of an operation stands in the decode space of its format. -/
def Statement (i : Instr) : Prop := (encode i).format = i.format

theorem fwd : Statement .fwd := rfl
theorem back : Statement .back := rfl
theorem stop : Statement .stop := rfl
theorem obst : Statement .obst := rfl
theorem ccw : Statement .ccw := rfl
theorem cw : Statement .cw := rfl
theorem report : Statement .report := rfl
theorem spd70 : Statement .spd70 := rfl
theorem spd80 : Statement .spd80 := rfl
theorem spd100 : Statement .spd100 := rfl
theorem unknown (op : Byte) : Statement (.unknown op) := rfl
theorem tick : Statement .tick := rfl
theorem echoRise : Statement .echoRise := rfl
theorem echoFall : Statement .echoFall := rfl
theorem rx (b : Byte) : Statement (.rx b) := rfl
theorem txc : Statement .txc := rfl
theorem main : Statement .main := rfl
theorem reset : Statement .reset := rfl
theorem pollEcho : Statement .pollEcho := rfl
theorem estLoad : Statement .estLoad := rfl
theorem estDist : Statement .estDist := rfl
theorem estLed : Statement .estLed := rfl
theorem estFmt : Statement .estFmt := rfl
theorem pollObst : Statement .pollObst := rfl
theorem pollCmd : Statement .pollCmd := rfl
theorem exec : Statement .exec := rfl
theorem turnHold : Statement .turnHold := rfl
theorem turnEnd : Statement .turnEnd := rfl
theorem sel : Statement .sel := rfl

end Sys2Proof.Laws.FormatAgrees
end

