-- ==== Sys2Proof/Tests/Slice0.lean ====
section
/-! SUPPORT. The model's own tests: the ill-formed operation, words written out from spec/30_encoding.md, single steps with the
numbers of spec/95_test_vectors.md (V<n> there), and, for every statement with hypotheses, a concrete state and operands
that meet them. -/

namespace Sys2Proof.Tests

open Sys2Proof Sys2Proof.Machine

/-! ### Helpers -/

/-- The operation answers a next state of which the test holds. -/
def after (i : Instr) (s : State) (p : State → Bool) : Bool :=
  match exec i s with
  | .next t => p t
  | .fault _ => false
  | .refused _ => false

/-- A run of operations answers a next state of which the test holds. -/
def afterRun (es : List Instr) (s : State) (p : State → Bool) : Bool :=
  match deliver es s with
  | .next t => p t
  | .fault _ => false
  | .refused _ => false

/-- The state after reset with `ML_PC` moved. -/
def atPc (pc : Nibble) : State := { State.reset with mlPc := pc }

/-- The default configuration with the policy `wrap16` (R136). -/
def wrapConfig : Config := { Config.default with ledLowPolicy := .wrap16 }

/-- The default configuration with no turn hold. -/
def noHold : Config := { Config.default with turnHoldTicks := 0#16 }

/-- `TRAS\n` in flight (V60). -/
def sendingTras (cur : Byte) : State := { State.reset with msgSel := 2#4, cursor := cur, txState := .sending }

/-- Forward at a distance, the command of forward motion taken last (V80, V81). -/
def forwardAt (d : Half) : State :=
  { State.reset with dir := .forward, distance := d, lastCmd := 0x77#8, mlPc := 5#4 }

/-- A capture and a turn command wait, with no turn hold. -/
def longIteration : State :=
  { State.resetWith noHold [] with echoReady := true, cmdPresent := true, cmdCode := 0x61#8 }

/-! ### Well-formedness (R84) -/

theorem test_unknown_forward_byte_is_ill_formed : (Instr.unknown 0x77#8).wellFormed = false := by decide
theorem test_unknown_digit_byte_is_ill_formed : (Instr.unknown 0x30#8).wellFormed = false := by decide
theorem test_unknown_line_feed_is_well_formed : (Instr.unknown 0x0A#8).wellFormed = true := by decide

/-! ### Words written out bit by bit (R83, R87, R90) -/

theorem test_decode_fwd : decode (.cmd 0b01110111#8) = .ok .fwd := rfl
theorem test_decode_back : decode (.cmd 0b01110011#8) = .ok .back := rfl
theorem test_decode_stop : decode (.cmd 0b01110001#8) = .ok .stop := rfl
theorem test_decode_obst : decode (.cmd 0b01011000#8) = .ok .obst := rfl
theorem test_decode_ccw : decode (.cmd 0b01100001#8) = .ok .ccw := rfl
theorem test_decode_cw : decode (.cmd 0b01100100#8) = .ok .cw := rfl
theorem test_decode_report : decode (.cmd 0b01100101#8) = .ok .report := rfl
theorem test_decode_spd70 : decode (.cmd 0b00110111#8) = .ok .spd70 := rfl
theorem test_decode_spd80 : decode (.cmd 0b00111000#8) = .ok .spd80 := rfl
theorem test_decode_spd100 : decode (.cmd 0b00110000#8) = .ok .spd100 := rfl
theorem test_decode_unknown_capital_w : decode (.cmd 0b01010111#8) = .ok (.unknown 0x57#8) := rfl
theorem test_decode_unknown_nine : decode (.cmd 0b00111001#8) = .ok (.unknown 0x39#8) := rfl
theorem test_decode_tick : decode (.evt 0b00000000000#11) = .ok .tick := rfl
theorem test_decode_tick_ignores_payload : decode (.evt 0b00011111111#11) = .ok .tick := rfl
theorem test_decode_echo_rise : decode (.evt 0b00100000001#11) = .ok .echoRise := rfl
theorem test_decode_echo_fall_ignores_high_bits : decode (.evt 0b00111111110#11) = .ok .echoFall := rfl
theorem test_decode_rx : decode (.evt 0b01001110111#11) = .ok (.rx 0x77#8) := rfl
theorem test_decode_txc : decode (.evt 0b01100000000#11) = .ok .txc := rfl
theorem test_decode_main : decode (.evt 0b10000000000#11) = .ok .main := rfl
theorem test_decode_reset : decode (.evt 0b10100000000#11) = .ok .reset := rfl
theorem test_decode_reserved_events :
    decode (.evt 0b11000000000#11) = .error .reservedEvent ∧ decode (.evt 0b11111111111#11) = .error .reservedEvent :=
  ⟨rfl, rfl⟩
theorem test_decode_poll_echo : decode (.mls 0b0000#4) = .ok .pollEcho := rfl
theorem test_decode_est_load : decode (.mls 0b0001#4) = .ok .estLoad := rfl
theorem test_decode_est_dist : decode (.mls 0b0010#4) = .ok .estDist := rfl
theorem test_decode_est_led : decode (.mls 0b0011#4) = .ok .estLed := rfl
theorem test_decode_est_fmt : decode (.mls 0b0100#4) = .ok .estFmt := rfl
theorem test_decode_poll_obst : decode (.mls 0b0101#4) = .ok .pollObst := rfl
theorem test_decode_poll_cmd : decode (.mls 0b0110#4) = .ok .pollCmd := rfl
theorem test_decode_exec : decode (.mls 0b0111#4) = .ok .exec := rfl
theorem test_decode_turn_hold : decode (.mls 0b1000#4) = .ok .turnHold := rfl
theorem test_decode_turn_end : decode (.mls 0b1001#4) = .ok .turnEnd := rfl
theorem test_decode_sel : decode (.mls 0b1010#4) = .ok .sel := rfl
theorem test_decode_reserved_main_steps :
    decode (.mls 0b1011#4) = .error .reservedMainStep ∧ decode (.mls 0b1111#4) = .error .reservedMainStep :=
  ⟨rfl, rfl⟩

/-! ### Words as the opcode table numbers them, and their first step -/

theorem test_table_words :
    decodeTableWord 8 0x77 = some .fwd ∧ decodeTableWord 16 0x277 = some (.rx 0x77#8) ∧
      decodeTableWord 8 7 = some .exec ∧ decodeTableWord 16 0x400 = some .main := by decide

theorem test_fetch_word_command : step (State.reset.withFetchWord 8 0x73) =
    exec .back { State.reset with tCmd := 0x73#8, mlPc := 7#4 } := rfl

theorem test_fetch_word_event : step (State.reset.withFetchWord 16 0x277) = exec (.rx 0x77#8) State.reset := rfl

theorem test_fetch_word_main_step : step (State.reset.withFetchWord 8 10) = exec .sel (atPc 10#4) := rfl

/-! ### The Distance Estimator -/

/-- V6, V12. -/
theorem test_est_dist :
    (after .estDist { State.reset with tD := 30#16 } fun t => t.distance == 25#16 && t.mlPc == 3#4) = true ∧
      (after .estDist { State.reset with tD := 65535#16 } fun t => t.distance == 56196#16) = true := by decide

/-- V5: the division truncates. V11. -/
theorem test_est_dist_truncates :
    (after .estDist { State.reset with tD := 29#16 } fun t => t.distance == 24#16) = true ∧
      (after .estDist { State.reset with tD := 1167#16 } fun t => t.distance == 1000#16) = true := by decide

/-- V14, V16, V26. -/
theorem test_est_led_clamp :
    (after .estLed { State.reset with distance := 14#16 } fun t => t.ledPeriod == 0#32) = true ∧
      (after .estLed { State.reset with distance := 16#16 } fun t => t.ledPeriod == 66#32) = true ∧
      (after .estLed { State.reset with distance := 56196#16 } fun t => t.ledPeriod == 3745400#32) = true := by decide

/-- V27, V28, and the formula above 15 cm (V20). -/
theorem test_est_led_wrap16 :
    (after .estLed { State.reset with cfg := wrapConfig, distance := 14#16 } fun t => t.ledPeriod == 4369000#32) = true ∧
      (after .estLed { State.reset with cfg := wrapConfig, distance := 0#16 } fun t => t.ledPeriod == 4368066#32) = true ∧
      (after .estLed { State.reset with cfg := wrapConfig, distance := 26#16 } fun t => t.ledPeriod == 733#32) = true := by
  decide

/-- V43. -/
theorem test_est_fmt :
    (after .estFmt { State.reset with distance := 314#16 } fun t =>
      digit t 0 == 0x33#8 && digit t 1 == 0x31#8 && digit t 2 == 0x34#8 && t.mlPc == 5#4) = true := by decide

/-- V45: the three low digits, and a digit equal to its reset content is no listed cell. -/
theorem test_est_fmt_thousand :
    (after .estFmt { State.reset with distance := 1000#16, mem := [(2305, 0x39#8)] } fun t => t.mem == []) = true := by
  decide

/-- R130: the flag is cleared only if it was set. -/
theorem test_poll_echo :
    (after .pollEcho { State.reset with echoReady := true } fun t => !t.echoReady && t.mlPc == 1#4) = true ∧
      (after .pollEcho State.reset fun t => t.mlPc == 5#4) = true := by decide

/-- R131. -/
theorem test_est_load : (after .estLoad { State.reset with pulse := 30#16 } fun t => t.tD == 30#16) = true := by decide

/-! ### The Tick Scheduler -/

/-- V30. -/
theorem test_first_tick :
    (after .tick State.reset fun t =>
      t.pulse == 1#16 && !t.trig && t.cntMsg == 1#16 && t.cntTrig == 1#16 && t.cntLed == 0#32 && t.led) = true := by decide

/-- V34, and V36 and V39b in the same tick: the resend, the trigger, the wrap of `PULSE`, the end of the hold. -/
theorem test_tick_20000 :
    (after .tick { State.reset with cntMsg := 19999#16, cntTrig := 3999#16, pulse := 65535#16, holdCnt := 1#16 } fun t =>
      t.cntMsg == 0#16 && t.wire == [⟨0x50#8, false⟩] && t.txState == .sending && t.cursor == 0#8 && t.trig &&
        t.cntTrig == 0#16 && t.pulse == 0#16 && t.holdCnt == 0#16) = true := by decide

/-- V38: the 733rd tick toggles; V39: at 25 cm the LED is forced on, not toggled. -/
theorem test_tick_led :
    (after .tick { State.reset with distance := 26#16, ledPeriod := 733#32, cntLed := 732#32, led := true } fun t =>
      !t.led && t.cntLed == 0#32) = true ∧
    (after .tick { State.reset with distance := 25#16, ledPeriod := 666#32, cntLed := 665#32, led := true } fun t =>
      t.led && t.cntLed == 0#32) = true := by decide

/-- V35: the resend of the report takes the digit of this moment; V37: the count is frozen under the flag. -/
theorem test_tick_resends_the_digit :
    (after .tick { State.reset with
      cntMsg := 19999#16, msgSel := 9#4, mem := [(2304, 0x33#8)], echoReady := true, pulse := 29#16 } fun t =>
      t.wire == [⟨0x33#8, false⟩] && t.pulse == 29#16) = true := by decide

/-! ### Echo Capture, Command Mailbox -/

/-- V46. -/
theorem test_echo_rise :
    (after .echoRise { State.reset with pulse := 1234#16 } fun t => t.pulse == 0#16 && !t.echoReady) = true := by decide

/-- V49a. -/
theorem test_echo_fall :
    (after .echoFall { State.reset with pulse := 30#16 } fun t => t.pulse == 30#16 && t.echoReady) = true := by decide

/-- V50. -/
theorem test_second_submit_is_lost :
    (afterRun [.rx 0x37#8, .rx 0x38#8] State.reset fun t => t.cmdCode == 0x37#8 && t.cmdPresent) = true := by decide

/-- V51. -/
theorem test_poll_cmd :
    (after .pollCmd { State.reset with cmdCode := 0x77#8, cmdPresent := true, mlPc := 6#4 } fun t =>
      t.tCmd == 0x77#8 && t.lastCmd == 0x77#8 && !t.cmdPresent && t.cmdCode == 0x77#8 && t.mlPc == 7#4) = true := by decide

/-! ### The Status Transmitter -/

/-- V60, both halves. -/
theorem test_txc :
    (after .txc (sendingTras 3#8) fun t =>
      t.cursor == 4#8 && t.wire == [⟨0x0A#8, false⟩] && t.txState == .sending) = true ∧
    (after .txc (sendingTras 4#8) fun t => t.cursor == 0#8 && t.wire == [] && t.txState == .idle) = true := by decide

/-- V62. -/
theorem test_sel :
    (after .sel { State.reset with cntMsg := 12345#16, mlPc := 10#4 } fun t =>
      t.msgSel == 0#4 && t.cursor == 0#8 && t.wire == [⟨0x46#8, false⟩] && t.cntMsg == 0#16 && t.txState == .sending &&
        t.mlPc == 0#4) = true := by decide

/-- R278: a selection while a byte is going out marks the overrun. -/
theorem test_sel_overrun :
    (after .sel { sendingTras 1#8 with tMsg := 1#4 } fun t => t.txOverrun && t.wire == [⟨0x4F#8, true⟩]) = true := by decide

/-! ### The Motion Controller and the main loop -/

/-- V74: the counter-clockwise turn starts. -/
theorem test_exec_ccw :
    (after .exec { State.reset with tCmd := 0x61#8, mlPc := 7#4 } fun t =>
      t.dir.code == 4#3 && t.tMsg == 3#4 && t.holdCnt == 1000#16 && t.mlPc == 8#4) = true := by decide

/-- V74a. -/
theorem test_exec_cw :
    (after .exec { State.reset with tCmd := 0x64#8, mlPc := 7#4 } fun t => t.dir.code == 3#3 && t.tMsg == 4#4) = true := by
  decide

/-- V54: an unknown byte selects nothing. -/
theorem test_exec_unknown :
    (after .exec { State.reset with tCmd := 0x0D#8, mlPc := 7#4 } fun t => t == { State.reset with tCmd := 0x0D#8 }) = true := by
  decide

/-- V76: `DUTY_1` with a bias of 5. -/
theorem test_duty :
    dutyOut (DutyPct.p70.percent DutySet.default) 0 = 70#7 ∧ dutyOut (DutyPct.p70.percent DutySet.default) 5 = 65#7 ∧
      dutyOut (DutyPct.p100.percent DutySet.default) 70 = 30#7 := by decide

/-- R233: the levels start with 1 after `RESET`. -/
theorem test_alternation_restarts_at_reset :
    PAlt true [.echoRise, .reset, .echoRise, .tick, .echoFall] = true ∧
      PAlt true [.echoRise, .reset, .echoFall] = false ∧ PAlt true [.echoRise, .echoRise] = false := by decide

/-- R233, R162: `RESET` ends the demand for a completion, a `TXC` offered in `Idle` does not meet it (log 18). -/
theorem test_completion_premise :
    PTxc (fun n => if n = 0 then sendingTras 0#8 else State.reset) (fun _ => .reset) ∧
      ¬ PTxc (fun n => if n = 0 then sendingTras 0#8 else State.reset) (fun n => if n = 0 then .tick else .txc) := by
  refine ⟨fun n _ => ⟨n, Nat.le_refl n, .inr rfl⟩, fun h => ?_⟩
  obtain ⟨k, -, hk⟩ := h 0 rfl
  cases k <;> simp [State.reset] at hk

/-- R8: another `DUTY_SET` by configuration. -/
theorem test_configured_duty :
    (after .spd70 { State.reset with cfg := { Config.default with dutySet := ⟨75#7, 85#7, 95#7⟩, bias0 := 5 } } fun t =>
      duty0 t == 70#7 && duty1 t == 75#7) = true := by decide

/-- V77. -/
theorem test_turn_hold :
    mainEnabled { State.reset with mlPc := 8#4, holdCnt := 1#16 } = false ∧
      (after .main (atPc 8#4) fun t => t.mlPc == 9#4) = true := by decide

/-- V78. -/
theorem test_turn_end :
    (after .turnEnd { State.reset with mlPc := 9#4, dir := .clockwiseTurn } fun t => t.dir.code == 0#3 && t.mlPc == 10#4)
      = true := by decide

/-- V80, V81. -/
theorem test_poll_obst :
    (after .pollObst (forwardAt 25#16) fun t => t.cmdCode == 0x58#8 && t.cmdPresent && t.mlPc == 6#4) = true ∧
      (after .pollObst (forwardAt 26#16) fun t => !t.cmdPresent && t.mlPc == 6#4) = true := by decide

/-- V82: no override moving backward. -/
theorem test_poll_obst_backward :
    (after .pollObst { forwardAt 0#16 with dir := .backward } fun t => !t.cmdPresent) = true := by decide

/-- R260, R52. -/
theorem test_reset :
    (after .reset { forwardAt 314#16 with mem := [(2304, 0x33#8)], dutyPct := .p70, wire := [⟨0x46#8, false⟩] } fun t =>
      t == State.reset) = true := by decide

/-! ### Witnesses: each statement's hypotheses are met -/

/-- TableWordsDecode: the boundary step numbers. -/
theorem witness_table_words :
    (11 ≤ (11#4 : Nibble).toNat ∧ decode (.mls 11#4) = .error .reservedMainStep) ∧
      11 ≤ (15#4 : Nibble).toNat ∧ decode (.mls 15#4) = .error .reservedMainStep := by decide

/-- DecodingAnEncodedOperationGivesItBack. -/
theorem witness_well_formed :
    (Instr.unknown 0x00#8).wellFormed = true ∧ (Instr.unknown 0xFF#8).wellFormed = true ∧
      (Instr.rx 0x77#8).wellFormed = true := by decide

/-- EncodingADecodedWordGivesItBack: a word of each space, with ignored payload bits set. -/
theorem witness_decoded_words :
    decode (.cmd 0xFF#8) = .ok (.unknown 0xFF#8) ∧ decode (.mls 10#4) = .ok .sel ∧
      decode (.evt 0x2FF#11) = .ok (.rx 0xFF#8) ∧ decode (.evt 0x1FF#11) = .ok .echoRise ∧
      decode (.evt 0x0FF#11) = .ok .tick := ⟨rfl, rfl, rfl, rfl, rfl⟩

/-- ExactlyTheOther246BytesAreUnknown: a byte on either side. -/
theorem witness_unknown_byte :
    (0x76#8 : Byte) ∉ [0x77#8, 0x73#8, 0x71#8, 0x58#8, 0x61#8, 0x64#8, 0x65#8, 0x37#8, 0x38#8, 0x30#8] ∧
      decode (.cmd 0x76#8) = .ok (.unknown 0x76#8) ∧ decode (.cmd 0x77#8) = .ok .fwd := ⟨by decide, rfl, rfl⟩

/-- StepRunsThePlacedEvent: a placed event and a placed reserved word. -/
theorem witness_placed_event :
    ({ State.reset with due := [0x277#11, 0x400#11] } : State).due = 0x277#11 :: [0x400#11] ∧
      decode (.evt 0x277#11) = .ok (.rx 0x77#8) ∧ 6 ≤ (0x600#11 : EvtWord).toNat / 256 ∧
      step { State.reset with due := [0x600#11] } = .refused .reservedEvent := ⟨rfl, rfl, by decide, rfl⟩

/-- StepWithNothingPlacedRunsSomeEvent. -/
theorem witness_nothing_placed : State.reset.due = [] := rfl

/-- PlacedProgramRunsInOrder. -/
theorem witness_program : ∀ i ∈ [Instr.rx 0x77#8, .main, .tick, .txc, .echoRise, .echoFall, .reset], i.format = .evt := by
  decide

/-- MainAndExecRunWhatTheirRegisterNames. -/
theorem witness_main_and_exec :
    decode (.mls (atPc 10#4).mlPc) = .ok .sel ∧ decode (.cmd State.reset.tCmd) = .ok (.unknown 0#8) ∧
      11 ≤ (atPc 11#4).mlPc.toNat := ⟨rfl, rfl, by decide⟩

/-- MainLoopSuccessors: every step number, the branches of `POLL_ECHO`, `POLL_CMD`, `EXEC` and the end of the hold. -/
theorem witness_successors :
    (∀ n, n ≤ 10 → (atPc (BitVec.ofNat 4 n)).mlPc.toNat ≤ 10) ∧ memRead (atPc 10#4) (atPc 10#4).tMsg 0 = .ok 0x46#8 ∧
      (after .main { State.reset with echoReady := true } fun t => t.mlPc == 1#4) = true ∧
      (after .main { atPc 6#4 with cmdPresent := true } fun t => t.mlPc == 7#4) = true ∧
      (after .main { atPc 7#4 with tCmd := 0x30#8 } fun t => t.mlPc == 10#4) = true ∧
      (after .main { atPc 7#4 with tCmd := 0x64#8 } fun t => t.mlPc == 8#4) = true ∧
      (after .main (atPc 7#4) fun t => t.mlPc == 0#4) = true := by decide

/-- AnIterationTakesThreeToElevenSteps: a plain iteration under the default hold, with a command that is no turn too, and
both extremes with no hold. -/
theorem witness_iteration :
    (State.reset.Inv ∧ State.reset.mlPc = 0#4 ∧ State.reset.cmdPresent = false) ∧
      (({ State.reset with cmdPresent := true, cmdCode := 0x65#8 } : State).Inv ∧
        ¬ ((0x65#8 : Byte) = 0x61#8 ∨ (0x65#8 : Byte) = 0x64#8)) ∧
    (State.resetWith noHold []).Inv ∧ (State.resetWith noHold []).mlPc = 0#4 ∧ noHold.turnHoldTicks = 0#16 ∧
      longIteration.Inv ∧ longIteration.mlPc = 0#4 ∧ longIteration.cfg.turnHoldTicks = 0#16 :=
  ⟨⟨by decide, rfl, rfl⟩, ⟨by decide, by decide⟩, by decide, rfl, rfl, by decide, rfl, rfl⟩

/-- TickCompletesAndWritesNothingElse: no resend due, and a resend whose byte can be read. -/
theorem witness_tick_completes :
    State.reset.cntMsg.toNat + 1 < State.reset.cfg.pMsg ∧
      ∃ b, memRead { State.reset with cntMsg := 19999#16 } State.reset.msgSel 0 = .ok b := ⟨by decide, 0x50#8, rfl⟩

/-- TickCountsThePulseAndTheHold: each of the four cases. -/
theorem witness_pulse_and_hold :
    (∃ t, exec .tick { State.reset with echoReady := true, holdCnt := 1#16 } = .next t ∧ t.holdCnt = 0#16) ∧
      ∃ t, exec .tick { State.reset with pulse := 65535#16 } = .next t ∧ t.pulse = 0#16 ∧ t.holdCnt = 0#16 :=
  ⟨⟨_, rfl, rfl⟩, _, rfl, rfl, rfl⟩

/-- TickDrivesTheTrigger: the tick before the period and the period. -/
theorem witness_trigger :
    Config.default.pTrig ≤ 65535 ∧
      (∃ t, exec .tick { State.reset with cntTrig := 3998#16 } = .next t ∧ t.trig = false ∧ t.cntTrig = 3999#16) ∧
      ∃ t, exec .tick { State.reset with cntTrig := 3999#16 } = .next t ∧ t.trig = true ∧ t.cntTrig = 0#16 :=
  ⟨by decide, ⟨_, rfl, rfl, rfl⟩, _, rfl, rfl, rfl⟩

/-- TickResendsTheFirstByte: the tick before the period and the period, into a running stream. -/
theorem witness_resend :
    Config.default.pMsg ≤ 65535 ∧
      (∃ t, exec .tick { State.reset with cntMsg := 19998#16 } = .next t ∧ t.cntMsg = 19999#16 ∧ t.wire = []) ∧
      memRead { sendingTras 2#8 with cntMsg := 19999#16 } 2#4 0 = .ok 0x54#8 ∧
      ∃ t, exec .tick { sendingTras 2#8 with cntMsg := 19999#16 } = .next t ∧ t.wire = [⟨0x54#8, true⟩] ∧ t.cursor = 2#8 :=
  ⟨by decide, ⟨_, rfl, rfl, rfl⟩, rfl, _, rfl, rfl, rfl⟩

/-- TickBlinksTheLed: forced at 25 cm, toggled at 26 cm, held before the period. -/
theorem witness_led :
    (∃ t, exec .tick { State.reset with distance := 25#16, led := true } = .next t ∧ t.led = true) ∧
      (∃ t, exec .tick { State.reset with distance := 26#16, led := true } = .next t ∧ t.led = false) ∧
      ∃ t, exec .tick { State.reset with ledPeriod := 2#32, led := true } = .next t ∧ t.led = true ∧ t.cntLed = 1#32 :=
  ⟨⟨_, rfl, rfl⟩, ⟨_, rfl, rfl⟩, _, rfl, rfl, rfl⟩

/-- TriggerIsOneTickInEvery4000. -/
theorem witness_trigger_run :
    Config.default.documentConstants ∧ (∀ i ∈ [Instr.tick, .rx 0x71#8, .main], i ≠ .reset) ∧
      ∃ s, deliver [.tick, .rx 0x71#8, .main] (State.resetWith Config.default []) = .next s :=
  ⟨by decide, by decide, _, rfl⟩

/-- TimingDomainsAreIndependent: two states that differ outside the trigger domain. -/
theorem witness_domains :
    (∃ t, exec .tick { State.reset with cntTrig := 3999#16 } = .next t ∧ t.trig = true) ∧
      ∃ t, exec .tick { State.reset with cntTrig := 3999#16, cntMsg := 19999#16, distance := 26#16 } = .next t ∧
        t.trig = true := ⟨⟨_, rfl, rfl⟩, _, rfl, rfl⟩

/-- EchoPulseIsMeasuredInTicks: a pulse of two ticks with other events in it, a tick and a byte after it. -/
theorem witness_echo_pulse :
    (∀ i ∈ [Instr.tick, .rx 0x71#8, .main, .tick], i.format = .evt ∧ i ≠ .echoRise ∧ i ≠ .echoFall ∧ i ≠ .reset) ∧
      (∀ i ∈ [Instr.tick, .rx 0x71#8], i.context = .interrupt ∧ i ≠ .echoRise) ∧ State.reset.echoReady = false ∧
      ∃ t, deliver (.echoRise :: ([.tick, .rx 0x71#8, .main, .tick] ++ .echoFall :: [.tick, .rx 0x71#8])) State.reset
        = .next t ∧ t.pulse = 2#16 := ⟨by decide, by decide, rfl, _, rfl, rfl⟩

/-- NoFallingEdgeNoNewDistance: on either side of the estimator's steps. -/
theorem witness_no_falling_edge :
    (∀ i ∈ [Instr.echoRise, .tick, .main, .main], i.format = .evt ∧ i ≠ .echoFall ∧ i ≠ .reset) ∧
      ¬ (1 ≤ (atPc 0#4).mlPc.toNat ∧ (atPc 0#4).mlPc.toNat ≤ 4) ∧
      ¬ (1 ≤ (atPc 5#4).mlPc.toNat ∧ (atPc 5#4).mlPc.toNat ≤ 4) ∧
      ∃ t, deliver [.echoRise, .tick, .main, .main] (atPc 5#4) = .next t :=
  ⟨by decide, by decide, by decide, _, rfl⟩

/-- EstDistIsTheTruncatedFormula, EstLedClampsBelow15, EstLedWrapsUnderWrap16. -/
theorem witness_estimator_configurations :
    Config.default.documentConstants ∧ Config.default.ledLowPolicy = .clamp ∧ wrapConfig.documentConstants ∧
      wrapConfig.ledLowPolicy = .wrap16 := by decide

/-- EstLedClampsBelow15, EstLedWrapsUnderWrap16: the distances 14, 15 and 56196 on either side of the clauses. -/
theorem witness_led_period :
    (∃ t, exec .estLed { State.reset with distance := 14#16 } = .next t ∧ t.ledPeriod = 0#32) ∧
      (∃ t, exec .estLed { State.reset with distance := 15#16 } = .next t ∧ t.ledPeriod = 0#32) ∧
      (∃ t, exec .estLed { State.reset with distance := 56196#16 } = .next t ∧ t.ledPeriod = 3745400#32) ∧
      (∃ t, exec .estLed { State.reset with cfg := wrapConfig, distance := 14#16 } = .next t ∧ t.ledPeriod = 4369000#32) ∧
      ∃ t, exec .estLed { State.reset with cfg := wrapConfig, distance := 15#16 } = .next t ∧ t.ledPeriod = 0#32 :=
  ⟨⟨_, rfl, rfl⟩, ⟨_, rfl, rfl⟩, ⟨_, rfl, rfl⟩, ⟨_, rfl, rfl⟩, _, rfl, rfl⟩

/-- EstFmtWritesTheThreeDigits: an address beside the digits. -/
theorem witness_other_byte :
    (¬ ((9#4 : Nibble).toNat = 9 ∧ 3 < 3) ∧ memRead State.reset 9#4 3 = .ok 0x63#8) ∧
      ¬ (msgAddr 9 3 = msgAddr 9 0 ∨ msgAddr 9 3 = msgAddr 9 1 ∨ msgAddr 9 3 = msgAddr 9 2) ∧
      ¬ (msgAddr 8 255 = msgAddr 9 0 ∨ msgAddr 8 255 = msgAddr 9 1 ∨ msgAddr 8 255 = msgAddr 9 2) :=
  ⟨⟨by decide, rfl⟩, by decide, by decide⟩

/-- EstimatorIsAFunctionOfThePulse. -/
theorem witness_capture :
    ({ State.reset with echoReady := true, pulse := 30#16 } : State).mlPc = 0#4 ∧
      Config.default.documentConstants ∧ Config.default.ledLowPolicy = .clamp ∧
      distanceOf Config.default 30 = 25 ∧ distanceOf Config.default 31 = 26 := by decide

/-- TicksBeforeTheLoadInflateTheReading: the count wraps at 2^16. -/
theorem witness_inflated_reading :
    ∃ t, deliver ([.main] ++ ticks 2 ++ [.main]) { State.reset with echoReady := true, pulse := 65535#16 } = .next t ∧
      t.tD = 1#16 := ⟨_, rfl, rfl⟩

/-- SecondSubmitIsLost: with other interrupts between the two bytes. -/
theorem witness_two_submits :
    (∀ i ∈ [Instr.tick, .rx 0x39#8, .echoFall], i.context = .interrupt) ∧
      ∃ u, exec (.rx 0x37#8) State.reset = .next u ∧
        ∃ t, deliver ([.tick, .rx 0x39#8, .echoFall] ++ [.rx 0x38#8]) u = .next t ∧ t.cmdCode = 0x37#8 :=
  ⟨by decide, _, rfl, _, rfl, rfl⟩

/-- MailboxCodeChangesOnlyWhileEmpty: a code that changes, and a mailbox that is emptied, by `POLL_CMD` and through `MAIN`. -/
theorem witness_mailbox :
    (∃ t, exec (.rx 0x77#8) State.reset = .next t ∧ t.cmdCode ≠ State.reset.cmdCode) ∧
      (∃ t, exec .pollCmd { State.reset with cmdPresent := true, cmdCode := 0x77#8 } = .next t ∧ t.cmdPresent = false) ∧
      ∃ t, exec .main { atPc 6#4 with cmdPresent := true, cmdCode := 0x77#8 } = .next t ∧ t.cmdPresent = false :=
  ⟨⟨_, rfl, by decide⟩, ⟨_, rfl, rfl⟩, _, rfl, rfl⟩

/-- TxcAdvancesOrEnds: the last byte and the byte before it. -/
theorem witness_txc :
    (sendingTras 4#8).txState = .sending ∧ msgLen (sendingTras 4#8) 2#4 = .ok 5 ∧
      (sendingTras 4#8).cursor.toNat + 1 = 5 ∧ (sendingTras 3#8).cursor.toNat + 1 ≠ 5 ∧
      memRead (sendingTras 3#8) 2#4 4 = .ok 0x0A#8 := ⟨rfl, rfl, by decide, by decide, rfl⟩

/-- SelRestartsTheTransmitter. -/
theorem witness_sel : memRead State.reset State.reset.tMsg 0 = .ok 0x46#8 := rfl

/-- CompleteTransmission: message 2. -/
theorem witness_transmission :
    (sendingTras 0#8).cursor = 0#8 ∧ (sendingTras 0#8).cfg.romOk ∧ (sendingTras 0#8).msgSel.toNat < 10 ∧
      msgLen (sendingTras 0#8) 2#4 = .ok [0x54#8, 0x52#8, 0x41#8, 0x53#8, (0x0A#8 : Byte)].length ∧
      memRead (sendingTras 0#8) 2#4 0 = .ok 0x54#8 ∧ memRead (sendingTras 0#8) 2#4 1 = .ok 0x52#8 ∧
      memRead (sendingTras 0#8) 2#4 2 = .ok 0x41#8 ∧ memRead (sendingTras 0#8) 2#4 3 = .ok 0x53#8 ∧
      memRead (sendingTras 0#8) 2#4 4 = .ok 0x0A#8 := ⟨rfl, by decide, by decide, rfl, rfl, rfl, rfl, rfl, rfl⟩

/-- OverrunIsStickyAndMeansABusyTransmitter: the mark being set, and being kept. -/
theorem witness_overrun :
    (∃ t, exec .sel (sendingTras 1#8) = .next t ∧ t.txOverrun = true) ∧
      ∃ t, exec .txc { sendingTras 1#8 with txOverrun := true } = .next t ∧ t.txOverrun = true :=
  ⟨⟨_, rfl, rfl⟩, _, rfl, rfl⟩

/-- WireGrowsByMarkedBytes: a step that writes and one that does not. -/
theorem witness_wire :
    (∃ t, exec .txc (sendingTras 1#8) = .next t ∧ t.wire = [⟨0x41#8, false⟩]) ∧
      ∃ t, exec .txc (sendingTras 4#8) = .next t ∧ t.wire = [] := ⟨⟨_, rfl, rfl⟩, _, rfl, rfl⟩

/-- StrobeMarksTheStepsThatWrite: a step that writes and one that does not. -/
theorem witness_strobe :
    (∃ t, step { sendingTras 1#8 with due := [0x300#11] } = .next t ∧ t.txStrobe = true) ∧
      ∃ t, step { sendingTras 1#8 with due := [0x100#11], txStrobe := true } = .next t ∧ t.txStrobe = false :=
  ⟨⟨_, rfl, rfl⟩, _, rfl, rfl⟩

/-- ExecPerformsTheArmOfTheOpcode: an opcode and a byte that is none. -/
theorem witness_exec :
    ({ atPc 7#4 with tCmd := 0x77#8 } : State).tCmd = 0x77#8 ∧
      (atPc 7#4).tCmd ∉ [0x77#8, 0x73#8, 0x71#8, 0x58#8, 0x61#8, 0x64#8, 0x65#8, 0x37#8, 0x38#8, 0x30#8] := by decide

/-- CommandThenSelectAnnouncesIt: the first bytes of all eight messages. -/
theorem witness_announced_messages :
    memRead State.reset 0#4 0 = .ok 0x46#8 ∧ memRead State.reset 1#4 0 = .ok 0x4F#8 ∧
      memRead State.reset 2#4 0 = .ok 0x54#8 ∧ memRead State.reset 5#4 0 = .ok 0x50#8 ∧
      memRead State.reset 6#4 0 = .ok 0x56#8 ∧ memRead State.reset 7#4 0 = .ok 0x56#8 ∧
      memRead State.reset 8#4 0 = .ok 0x56#8 ∧ memRead State.reset 9#4 0 = .ok 0x30#8 :=
  ⟨rfl, rfl, rfl, rfl, rfl, rfl, rfl, rfl⟩

/-- RepeatedCommandIsIdempotent (V75). -/
theorem witness_repeated_command :
    ∃ t, deliver [.stop, .sel] State.reset = .next t ∧
      ∃ u, deliver [.stop, .sel] t = .next u ∧ u.wire = [⟨0x50#8, false⟩, ⟨0x50#8, true⟩] := ⟨_, rfl, _, rfl, rfl⟩

/-- TurnHoldEndsAndTurnEndStops, DisabledOperationsChangeNothing. -/
theorem witness_hold :
    State.reset.holdCnt = 0#16 ∧ State.reset.txState = .idle ∧ State.reset.mlPc ≠ 8#4 ∧
      ({ atPc 8#4 with holdCnt := 1#16 } : State).holdCnt ≠ 0#16 ∧
      ({ atPc 8#4 with holdCnt := 1#16 } : State).mlPc = 8#4 := by decide

/-- TurnHoldsThenStopsThenAnnounces: both turns, with a hold of 0 and of the default length. -/
theorem witness_turns :
    memRead State.reset State.reset.msgSel 0 = .ok 0x50#8 ∧ memRead State.reset 3#4 0 = .ok 0x41#8 ∧
      memRead State.reset 4#4 0 = .ok 0x48#8 ∧ memRead (State.resetWith noHold []) 3#4 0 = .ok 0x41#8 ∧
      1000 ≤ State.reset.cfg.turnHoldTicks.toNat := ⟨rfl, rfl, rfl, rfl, by decide⟩

/-- TurnHoldStallsThePolling: a capture and a command wait while one of two ticks of the hold passes. -/
theorem witness_stall :
    (∀ i ∈ [Instr.tick, .main, .rx 0x71#8], i.format = .evt ∧ i ≠ .reset) ∧
      [Instr.tick, .main, .rx 0x71#8].count .tick < (2#16 : Half).toNat ∧
      ∃ t, deliver [.tick, .main, .rx 0x71#8]
        { atPc 8#4 with holdCnt := 2#16, echoReady := true, cmdPresent := true, cmdCode := 0x77#8 } = .next t ∧
        t.cmdCode = 0x77#8 ∧ t.echoReady = true := ⟨by decide, by decide, _, rfl, rfl, rfl⟩

/-- OutputStage: the document's duty set, another one R43 allows, a command that writes the direction and one that writes the
duty. -/
theorem witness_outputs :
    State.reset.cfg.dutySet = DutySet.default ∧ State.reset.cfg.dutyOk ∧
      ({ Config.default with dutySet := ⟨70#7, 70#7, 127#7⟩ } : Config).dutyOk ∧
    Instr.fwd.format = .cmd ∧ (∃ t, exec .fwd State.reset = .next t) ∧ ∃ t, exec .spd70 State.reset = .next t :=
  ⟨rfl, by decide, by decide, rfl, ⟨_, rfl⟩, _, rfl⟩

/-- PollObstSubmitsTheObstacleCode: at the threshold, above it, and with a full mailbox. -/
theorem witness_override :
    ((forwardAt 25#16).dir = .forward ∧ (forwardAt 25#16).distance.toNat ≤ (forwardAt 25#16).cfg.dMin ∧
      (forwardAt 25#16).lastCmd ≠ 0x58#8 ∧ (forwardAt 25#16).cmdPresent = false) ∧
      ¬ (forwardAt 26#16).distance.toNat ≤ (forwardAt 26#16).cfg.dMin ∧
      ({ forwardAt 25#16 with cmdPresent := true } : State).cmdPresent = true := by decide

/-- ObstacleStopsInTheSameIterationOnce. -/
theorem witness_obstacle :
    (forwardAt 25#16).mlPc = 5#4 ∧ (forwardAt 25#16).distance.toNat ≤ (forwardAt 25#16).cfg.dMin ∧
      (forwardAt 25#16).lastCmd ≠ 0x58#8 ∧ (forwardAt 25#16).echoReady = false ∧
      memRead (forwardAt 25#16) 1#4 0 = .ok 0x4F#8 := ⟨rfl, by decide, by decide, rfl, rfl⟩

/-- ResetPutsEveryRegisterAtItsValue, InvariantHoldsAfterReset. -/
theorem witness_configurations :
    Config.default.documentConstants ∧ Config.default.romOk ∧ wrapConfig.documentConstants ∧ wrapConfig.romOk := by decide

/-- EveryStepKeepsTheInvariant: from a state far from reset. -/
theorem witness_invariant_step :
    ({ sendingTras 4#8 with
      dir := .forward, lastCmd := 0x77#8, distance := 314#16, ledPeriod := 19933#32, cntLed := 19932#32
      mem := [(2304, 0x33#8), (2305, 0x31#8), (2306, 0x34#8)], due := [0x300#11] } : State).Inv ∧
      ∃ t, step { sendingTras 4#8 with
        dir := .forward, lastCmd := 0x77#8, distance := 314#16, ledPeriod := 19933#32, cntLed := 19932#32
        mem := [(2304, 0x33#8), (2305, 0x31#8), (2306, 0x34#8)], due := [0x300#11] } = .next t ∧ t.txState = .idle :=
  ⟨by decide, _, rfl, rfl⟩

/-- ReachableStatesMeetR47: a state one step after reset, under `wrap16`. -/
theorem witness_reachable : ∃ s, Reachable s ∧ s.cntMsg = 1#16 ∧ s.cfg.ledLowPolicy = .wrap16 :=
  ⟨_, .step _ _ (.reset wrapConfig [0x000#11] (by decide) (by decide)) rfl, rfl, rfl⟩

/-- NoStepFaultsUnderTheInvariant: with an event placed and with none. -/
theorem witness_no_fault :
    (State.resetWith Config.default [0x5FF#11]).Inv ∧
      (∀ w ∈ (State.resetWith Config.default [0x5FF#11]).due.head?, w.toNat / 256 < 6) ∧
      State.reset.Inv ∧ ∀ w ∈ State.reset.due.head?, w.toNat / 256 < 6 :=
  ⟨by decide, by simp [State.resetWith], by decide, by simp [State.reset]⟩

/-- OnlyOwnersWrite: a write of each context. -/
theorem witness_owners :
    (∃ t, exec .tick State.reset = .next t ∧ t.cntMsg ≠ State.reset.cntMsg) ∧
      (∃ t, exec .sel { State.reset with cntMsg := 5#16 } = .next t ∧ t.cntMsg ≠ 5#16) ∧
      ∃ t, exec .pollEcho { State.reset with echoReady := true } = .next t ∧ t.echoReady ≠ true :=
  ⟨⟨_, rfl, by decide⟩, ⟨_, rfl, by decide⟩, _, rfl, by decide⟩

/-- ContextsKeepToTheirOwnRegisters: an operation of each context. -/
theorem witness_contexts :
    Instr.tick.context = .interrupt ∧ (∃ t, exec .tick State.reset = .next t) ∧ Instr.main.context = .mainLoop ∧
      ∃ t, exec .main (atPc 10#4) = .next t := ⟨rfl, ⟨_, rfl⟩, rfl, _, rfl⟩

/-- MessageSpaceIsWrittenByEstFmtOnly, ConfigurationAndPlacedEventsStay. -/
theorem witness_memory :
    (∃ t, exec .main (atPc 5#4) = .next t) ∧ (Instr.main ≠ .reset ∧ Instr.main ≠ .estFmt ∧ ¬ (atPc 5#4).mlPc = 4#4) ∧
      Memory.wf Config.default [(2304, 0x33#8)] = true ∧ Memory.wf Config.default [(2304, 0x30#8)] = false :=
  ⟨⟨_, rfl⟩, by decide, by decide, by decide⟩

/-- MessageReadsAreInsideTheSpace: the boundary of each clause. -/
theorem witness_reads :
    Config.default.romOk ∧ 8 < 9 ∧ 15 < rowLen Config.default 8#4 ∧ rowLen Config.default 8#4 ≤ 16 ∧
      rowLen Config.default 9#4 ≤ 6 ∧ 10 ≤ (10#4 : Nibble).toNat ∧ isAsciiDigit (digit State.reset 2) = true ∧
      isAsciiDigit (digit { State.reset with mem := [(2306, 0x2F#8)] } 2) = false := by decide

/-- EveryMessageEndsInALineFeed: an allowed table, the last byte of `TRAS` in flight, and a table that is not allowed. -/
theorem witness_line_feed :
    (sendingTras 4#8).cfg.romOk ∧ (sendingTras 4#8).msgSel.toNat < 10 ∧ (sendingTras 4#8).txState = .sending ∧
      (∃ t, exec .txc (sendingTras 4#8) = .next t ∧ t.txState = .idle) ∧
      ¬ ({ Config.default with msgRom := Config.defaultRom.set 2 [0x54#8, 0x52#8] } : Config).romOk :=
  ⟨by decide, by decide, rfl, ⟨_, rfl, rfl⟩, by decide⟩

end Sys2Proof.Tests
end

section
/-! PROOFS. The family of spec/00_scope.md: what a step does with a placed event (R12, R44, R87). -/

namespace Sys2Proof

/-- `ev` is the whole of the word above the payload (R80): 11 bits leave nothing above it. -/
theorem evField_toNat (w : EvtWord) : (evField w).toNat = w.toNat / 256 := by
  have hw : w.toNat < 2048 := w.isLt
  simp only [evField, BitVec.extractLsb'_toNat, Nat.shiftRight_eq_div_pow]
  omega

/-- The event numbers above 5 are the two reserved ones (R87). -/
theorem evField_eq_six_or_seven {w : EvtWord} (h : 6 ≤ w.toNat / 256) : evField w = 6#3 ∨ evField w = 7#3 := by
  have hlt : (evField w).toNat < 8 := (evField w).isLt
  have hge : 6 ≤ (evField w).toNat := evField_toNat w ▸ h
  rcases (by omega : (evField w).toNat = 6 ∨ (evField w).toNat = 7) with h6 | h7
  · exact .inl (BitVec.eq_of_toNat_eq h6)
  · exact .inr (BitVec.eq_of_toNat_eq h7)

theorem decodeEvt_of_six_le {w : EvtWord} (h : 6 ≤ w.toNat / 256) : decodeEvt w = .error .reservedEvent := by
  rcases evField_eq_six_or_seven h with h6 | h7
  · simp [decodeEvt, h6]
  · simp [decodeEvt, h7]

end Sys2Proof

namespace Sys2Proof.Machine

/-- A placed event comes before the environment's free choice (log 1). -/
theorem fetchEvent_of_due_cons {s : State} {w : EvtWord} {rest : List EvtWord} (h : s.due = w :: rest) :
    fetchEvent s = (w, { s with due := rest }) := by
  simp [fetchEvent, h]

theorem step_of_decodeEvt_ok {s : State} {i : Instr} (h : decodeEvt (fetchEvent s).1 = .ok i) :
    step s = exec i (lowerStrobe (fetchEvent s).2) := by
  simp only [step, h]

theorem step_of_decodeEvt_error {s : State} {e : DecodeError} (h : decodeEvt (fetchEvent s).1 = .error e) :
    step s = .refused .reservedEvent := by
  simp only [step, h]

/-- Settles O5: `fetchEvent` answers the placed word, and the step follows the two answers `decodeEvt` can give to it. -/
theorem stepRunsThePlacedEvent : Obligations.StepRunsThePlacedEvent := by
  intro s w rest hdue
  have hfetch := fetchEvent_of_due_cons hdue
  constructor
  · intro i hdec
    have hstep : step s = exec i (lowerStrobe (fetchEvent s).2) := step_of_decodeEvt_ok (by rw [hfetch]; exact hdec)
    rw [hstep, hfetch, lowerStrobe]
  · intro hev
    exact step_of_decodeEvt_error (by rw [hfetch]; exact decodeEvt_of_six_le hev)

end Sys2Proof.Machine
end

section
/-! PROOFS. What every operation can do and what it leaves alone (spec/10_state.md R46), said once: the decoder's
answers, `MAIN` and `EXEC` as the row they run, one inversion lemma per operation that branches, and the frames. -/

namespace Sys2Proof

/-! ### What the decoders answer (R80, R87, R90) -/

theorem decodeCmd_format (b : Byte) : (decodeCmd b).format = .cmd := by
  unfold decodeCmd
  split_ifs <;> rfl

theorem decodeMls_format {pc : Nibble} {i : Instr} (h : decodeMls pc = .ok i) : i.format = .mls := by
  unfold decodeMls at h
  split at h <;> cases h <;> rfl

theorem context_of_format_mls {i : Instr} (h : i.format = .mls) : i.context = .mainLoop := by
  cases i with
  | pollEcho | estLoad | estDist | estLed | estFmt | pollObst | pollCmd | exec | turnHold | turnEnd | sel => rfl
  | _ => cases h

/-- `EXEC` is the only step of its number. -/
theorem ne_pcExec_of_decodeMls {pc : Nibble} {i : Instr} (h : decodeMls pc = .ok i) (hi : i ≠ .exec) : pc ≠ pcExec := by
  rintro rfl
  cases h
  exact hi rfl

theorem eq_pcExec_of_decodeMls {pc : Nibble} (h : decodeMls pc = .ok .exec) : pc = pcExec := by
  unfold decodeMls at h
  split at h <;> cases h
  rfl

theorem evField_evtWord (ev : BitVec 3) (arg : Byte) : evField (evtWord ev arg) = ev := by
  apply BitVec.eq_of_toNat_eq
  have hev : (evtWord ev arg).toNat = ev.toNat * 256 + arg.toNat := by
    rw [evtWord, BitVec.toNat_append, Nat.shiftLeft_eq, mul_comm, ← Nat.two_pow_add_eq_or_of_lt arg.isLt, mul_comm]
  have harg : arg.toNat < 256 := arg.isLt
  rw [evField_toNat, hev]
  omega

/-- An event word decodes to an event operation, and only `ev` 6 and 7 do not decode (R87). -/
theorem decodeEvt_cases (w : EvtWord) :
    (∃ i, decodeEvt w = .ok i ∧ i.format = .evt ∧ i.wellFormed = true) ∨ 6 ≤ (evField w).toNat := by
  unfold decodeEvt
  generalize evField w = ev
  split
  · exact .inl ⟨_, rfl, rfl, rfl⟩
  · refine .inl ⟨_, rfl, ?_⟩
    split <;> exact ⟨rfl, rfl⟩
  · exact .inl ⟨_, rfl, rfl, rfl⟩
  · exact .inl ⟨_, rfl, rfl, rfl⟩
  · exact .inl ⟨_, rfl, rfl, rfl⟩
  · exact .inl ⟨_, rfl, rfl, rfl⟩
  · next h0 h1 h2 h3 h4 h5 =>
    right
    simp only [imp_false] at h0 h1 h2 h3 h4 h5
    bv_omega

theorem decodeEvt_format {w : EvtWord} {i : Instr} (h : decodeEvt w = .ok i) : i.format = .evt := by
  rcases decodeEvt_cases w with ⟨j, hj, hfmt, -⟩ | hlt
  · cases hj.symm.trans h
    exact hfmt
  · rw [evField_toNat] at hlt
    cases (decodeEvt_of_six_le hlt).symm.trans h

end Sys2Proof

namespace Sys2Proof.Machine

variable {i : Instr} {s t : State}

/-! ### `EXEC` and `MAIN` name the row they run (R191, R211) -/

theorem exec_exec_eq_decoded (s : State) : exec .exec s = exec (decodeCmd s.tCmd) s := by
  simp only [decodeCmd, apply_ite (fun i => exec i s)]
  rfl

/-- What a completed `MAIN` has done: the step `ML_PC` decodes to. -/
theorem exec_main_inv (h : exec .main s = .next t) : ∃ i, decodeMls s.mlPc = .ok i ∧ exec i s = .next t := by
  simp only [exec, execMain] at h
  split at h
  case' h_12 => cases h
  all_goals
    rename_i hpc
    rw [hpc]
    exact ⟨_, rfl, h⟩

/-- What holds of every completed row but `MAIN`, and passes from a main-loop step to the `MAIN` that runs it, holds of
every completed operation. -/
theorem exec_induction {P : Instr → State → State → Prop}
    (hrow : ∀ i s t, i ≠ .main → exec i s = .next t → P i s t)
    (hstep : ∀ j s t, j.format = .mls → P j s t → P .main s t) (h : exec i s = .next t) : P i s t := by
  by_cases hmain : i = .main
  · subst hmain
    obtain ⟨j, hj, hx⟩ := exec_main_inv h
    have hfmt := decodeMls_format hj
    exact hstep j s t hfmt (hrow j s t (by rintro rfl; cases hfmt) hx)
  · exact hrow i s t hmain h

/-- What a completed step has done: the operation of the next event, on the state without it and with the strobe low. -/
theorem step_inv (h : step s = .next t) :
    ∃ i, decodeEvt (fetchEvent s).1 = .ok i ∧ exec i (lowerStrobe (fetchEvent s).2) = .next t := by
  rcases step_cases s with ⟨i, hi, hs⟩ | ⟨e, -, hs⟩
  · exact ⟨i, hi, hs.symm.trans h⟩
  · cases hs.symm.trans h

/-- Taking the next event touches only the model's own event fields (log 1). -/
theorem fetchEvent_frame (s : State) :
    (fetchEvent s).2 = { s with due := (fetchEvent s).2.due, envCount := (fetchEvent s).2.envCount } := by
  unfold fetchEvent
  split <;> rfl

@[simp] theorem fetchEvent_cfg (s : State) : (fetchEvent s).2.cfg = s.cfg := by rw [fetchEvent_frame]
@[simp] theorem fetchEvent_wire (s : State) : (fetchEvent s).2.wire = s.wire := by rw [fetchEvent_frame]

/-! ### The operations that branch (R151, R130, R152, R213, R194) -/

theorem submit_frame (c : Byte) (s : State) :
    submit c s = { s with cmdCode := (submit c s).cmdCode, cmdPresent := (submit c s).cmdPresent } := by
  unfold submit
  split <;> rfl

theorem exec_pollEcho_inv (h : exec .pollEcho s = .next t) :
    (s.echoReady = true ∧ t = { s with echoReady := false, mlPc := pcEstLoad }) ∨
      (s.echoReady = false ∧ t = goTo pcPollObst s) := by
  simp only [exec, execPollEcho] at h
  split at h <;> cases h
  · next hr => exact .inl ⟨hr, rfl⟩
  · next hr => exact .inr ⟨by simpa using hr, rfl⟩

theorem exec_pollCmd_inv (h : exec .pollCmd s = .next t) :
    (s.cmdPresent = true ∧
        t = { s with tCmd := s.cmdCode, lastCmd := s.cmdCode, cmdPresent := false, mlPc := pcExec }) ∨
      (s.cmdPresent = false ∧ t = goTo pcPollEcho s) := by
  simp only [exec, execPollCmd] at h
  split at h <;> cases h
  · next hp => exact .inl ⟨hp, rfl⟩
  · next hp => exact .inr ⟨by simpa using hp, rfl⟩

theorem exec_pollObst_inv (h : exec .pollObst s = .next t) :
    (overrideDue s = true ∧ t = goTo pcPollCmd (submit opObst s)) ∨
      (overrideDue s = false ∧ t = goTo pcPollCmd s) := by
  simp only [exec, execPollObst] at h
  split at h <;> cases h
  · next hd => exact .inl ⟨hd, rfl⟩
  · next hd => exact .inr ⟨by simpa using hd, rfl⟩

theorem exec_turnHold_inv (h : exec .turnHold s = .next t) :
    (s.holdCnt = 0#16 ∧ t = goTo pcTurnEnd s) ∨ (s.holdCnt ≠ 0#16 ∧ t = s) := by
  simp only [exec, execTurnHold] at h
  split at h <;> cases h
  · next h0 => exact .inl ⟨h0, rfl⟩
  · next h0 => exact .inr ⟨h0, rfl⟩

/-! ### Frames -/

/-- A command writes the direction, the duty, the message, the hold and `ML_PC`, and nothing else (R180 to R190). -/
theorem exec_command_frame (hi : i.format = .cmd) (h : exec i s = .next t) :
    t = { s with
      dir := t.dir, dutyPct := t.dutyPct, tMsg := t.tMsg, holdCnt := t.holdCnt, mlPc := t.mlPc } := by
  cases i with
  | fwd | back | stop | obst | ccw | cw | report | spd70 | spd80 | spd100 | unknown op => cases h; rfl
  | _ => cases hi

theorem exec_exec_frame (h : exec .exec s = .next t) :
    t = { s with
      dir := t.dir, dutyPct := t.dutyPct, tMsg := t.tMsg, holdCnt := t.holdCnt, mlPc := t.mlPc } :=
  exec_command_frame (decodeCmd_format s.tCmd) (exec_exec_eq_decoded s ▸ h)

/-- The operation neither hands over bytes itself (`TICK`, `TXC`, `SEL`), nor runs another operation that may (`MAIN`),
nor is `RESET`. -/
def leavesTransmitter : Instr → Bool
  | .tick | .txc | .sel | .main | .reset => false
  | _ => true

/-- The other operations leave the periodic counters, the transmitter with its ports, the selected message and the
model's own fields alone. -/
theorem exec_frame_of_leavesTransmitter (h : exec i s = .next t) (hi : leavesTransmitter i = true) :
    t = { s with
      pulse := t.pulse, echoReady := t.echoReady, cmdCode := t.cmdCode, cmdPresent := t.cmdPresent
      distance := t.distance, ledPeriod := t.ledPeriod, mem := t.mem, tD := t.tD, tCmd := t.tCmd
      lastCmd := t.lastCmd, tMsg := t.tMsg, dir := t.dir, dutyPct := t.dutyPct, holdCnt := t.holdCnt
      mlPc := t.mlPc } := by
  cases i with
  | tick | txc | sel | main | reset => cases hi
  | fwd | back | stop | obst | ccw | cw | report | spd70 | spd80 | spd100 | unknown op => cases h; rfl
  | echoRise | echoFall | estLoad | estDist | estLed | estFmt | turnEnd => cases h; rfl
  | rx b => cases h; rw [submit_frame]
  | pollEcho => rcases exec_pollEcho_inv h with ⟨-, rfl⟩ | ⟨-, rfl⟩ <;> rfl
  | pollCmd => rcases exec_pollCmd_inv h with ⟨-, rfl⟩ | ⟨-, rfl⟩ <;> rfl
  | turnHold => rcases exec_turnHold_inv h with ⟨-, rfl⟩ | ⟨-, rfl⟩ <;> rfl
  | pollObst =>
    rcases exec_pollObst_inv h with ⟨-, rfl⟩ | ⟨-, rfl⟩
    · rw [submit_frame]; rfl
    · rfl
  | exec => rw [exec_exec_frame h]

end Sys2Proof.Machine
end

section
/-! PROOFS. The model's own fields (R20), the transmitter's ports and `WIRE` (R37, R45, R161), and the ownership of the
registers (R46). -/

namespace Sys2Proof.Machine

variable {i : Instr} {s t : State}

/-! ### The model's own fields (R20) -/

theorem exec_keeps_cfg_due_envCount (h : exec i s = .next t) :
    t.cfg = s.cfg ∧ t.due = s.due ∧ t.envCount = s.envCount := by
  refine exec_induction (P := fun _ s t => t.cfg = s.cfg ∧ t.due = s.due ∧ t.envCount = s.envCount) ?_
    (fun _ _ _ _ hj => hj) h
  intro i s t hmain h
  cases i with
  | main => contradiction
  | tick => rcases exec_tick_inv h with ⟨u, rfl, ⟨-, rfl⟩ | ⟨-, b, -, rfl⟩⟩ <;> simp
  | txc => rcases exec_txc_inv h with ⟨-, rfl⟩ | ⟨-, -, rfl⟩ | ⟨-, -, b, -, rfl⟩ <;> simp
  | sel => obtain ⟨b, -, rfl⟩ := exec_sel_inv h; simp
  | reset => cases h; exact ⟨rfl, rfl, rfl⟩
  | _ =>
    rw [exec_frame_of_leavesTransmitter h rfl]
    exact ⟨rfl, rfl, rfl⟩

/-- Settles O58: the model's own fields are in no operation's row. -/
theorem configurationAndPlacedEventsStay : Obligations.ConfigurationAndPlacedEventsStay :=
  fun _ _ _ h => exec_keeps_cfg_due_envCount h

/-! ### The transmitter (R37, R45, R161) -/

/-- The operation handed over no byte. -/
structure NoByteWritten (s t : State) : Prop where
  wire : t.wire = s.wire
  data : t.txData = s.txData
  overrun : t.txOverrun = s.txOverrun
  strobe : t.txStrobe = s.txStrobe

/-- The operation handed over one byte (R161). `TXC` hands over the next byte after the one before has gone out, so it
never finds the transmitter busy (R163). -/
structure ByteWritten (i : Instr) (b : Byte) (s t : State) : Prop where
  wire : t.wire = s.wire ++ [⟨b, t.txOverrun⟩]
  data : t.txData = b
  state : t.txState = .sending
  overrun : t.txOverrun = if i = .txc then s.txOverrun else overrunAfterWrite s
  strobe : t.txStrobe = true

/-- Every operation but `RESET` hands over at most one byte. -/
theorem exec_writes_at_most_one_byte (hreset : i ≠ .reset) (h : exec i s = .next t) :
    NoByteWritten s t ∨ ∃ b, ByteWritten i b s t := by
  refine exec_induction (P := fun i s t => i ≠ .reset → NoByteWritten s t ∨ ∃ b, ByteWritten i b s t) ?_ ?_ h hreset
  · intro i s t hmain h hreset
    cases i with
    | main | reset => contradiction
    | tick =>
      rcases exec_tick_inv h with ⟨u, rfl, ⟨-, rfl⟩ | ⟨-, b, -, rfl⟩⟩
      · exact .inl (by constructor <;> simp)
      · exact .inr ⟨b, by constructor <;> simp [overrunAfterWrite]⟩
    | txc =>
      rcases exec_txc_inv h with ⟨-, rfl⟩ | ⟨-, -, rfl⟩ | ⟨-, -, b, -, rfl⟩
      · exact .inl ⟨rfl, rfl, rfl, rfl⟩
      · exact .inl ⟨rfl, rfl, rfl, rfl⟩
      · exact .inr ⟨b, by constructor <;> simp [overrunAfterWrite]⟩
    | sel =>
      obtain ⟨b, -, rfl⟩ := exec_sel_inv h
      exact .inr ⟨b, by constructor <;> simp [overrunAfterWrite]⟩
    | _ =>
      rw [exec_frame_of_leavesTransmitter h rfl]
      exact .inl ⟨rfl, rfl, rfl, rfl⟩
  · intro j s t hj hstep _
    have hne : j ≠ .reset ∧ j ≠ .txc := by constructor <;> rintro rfl <;> cases hj
    refine (hstep hne.1).imp_right fun ⟨b, hb⟩ => ⟨b, { hb with overrun := ?_ }⟩
    simpa [hne.2] using hb.overrun

/-- Settles O36: a written byte can only raise the mark, and does so only over a transmitter that is still `Sending`. -/
theorem overrunIsStickyAndMeansABusyTransmitter : Obligations.OverrunIsStickyAndMeansABusyTransmitter := by
  intro i s t hreset h
  rcases exec_writes_at_most_one_byte hreset h with hn | ⟨b, hb⟩
  · rw [hn.overrun]
    exact ⟨id, fun h0 h1 => absurd (h0.symm.trans h1) (by decide)⟩
  · have hover := hb.overrun
    split at hover
    · rw [hover]
      exact ⟨id, fun h0 h1 => absurd (h0.symm.trans h1) (by decide)⟩
    · next htxc =>
      simp only [overrunAfterWrite] at hover
      refine ⟨fun h1 => by simp [hover, h1], fun h0 h1 => ⟨?_, htxc, b, by rw [hb.wire, h1]⟩⟩
      simpa [h0, h1] using hover

/-- Settles O37: an operation hands over no byte, or one marked byte. -/
theorem wireGrowsByMarkedBytes : Obligations.WireGrowsByMarkedBytes := by
  intro i s t hreset h
  rcases exec_writes_at_most_one_byte hreset h with hn | ⟨b, hb⟩
  · exact .inl ⟨hn.wire, hn.data⟩
  · exact .inr ⟨b, hb.wire, hb.data, hb.state⟩

/-- Settles O38: a step lowers the strobe first, so it is high afterwards exactly if the operation wrote a byte; `RESET`
leaves it low and empties `WIRE`. -/
theorem strobeMarksTheStepsThatWrite : Obligations.StrobeMarksTheStepsThatWrite := by
  intro s t h
  obtain ⟨i, -, hx⟩ := step_inv h
  by_cases hreset : i = .reset
  · subst hreset
    cases hx
    simp [State.reset]
  · rcases exec_writes_at_most_one_byte hreset hx with hn | ⟨b, hb⟩
    · simp [hn.strobe, hn.wire]
    · simp [hb.strobe, hb.wire]

/-! ### Ownership (R46) -/

/-- Settles O55: each operation's row, read off its inversion lemma; `EXEC` acts as a command. -/
theorem onlyOwnersWrite : Obligations.OnlyOwnersWrite := by
  intro i s t hmain hreset h
  cases i with
  | main | reset => contradiction
  | fwd | back | stop | obst | ccw | cw | report | spd70 | spd80 | spd100 | unknown op =>
    cases h
    simp [Instr.format, Instr.context]
  | echoRise | echoFall | estLoad | estDist | estLed | estFmt | turnEnd =>
    cases h
    simp [Instr.context]
  | exec =>
    rw [exec_exec_frame h]
    simp [Instr.context]
  | tick => rcases exec_tick_inv h with ⟨u, rfl, ⟨-, rfl⟩ | ⟨-, b, -, rfl⟩⟩ <;> simp
  | txc => rcases exec_txc_inv h with ⟨-, rfl⟩ | ⟨-, -, rfl⟩ | ⟨-, -, b, -, rfl⟩ <;> simp
  | sel => obtain ⟨b, -, rfl⟩ := exec_sel_inv h; simp [Instr.context]
  | rx b => cases h; simp +contextual
  | pollEcho => rcases exec_pollEcho_inv h with ⟨-, rfl⟩ | ⟨-, rfl⟩ <;> simp [Instr.context]
  | pollCmd => rcases exec_pollCmd_inv h with ⟨hp, rfl⟩ | ⟨-, rfl⟩ <;> simp [Instr.context, *]
  | pollObst => rcases exec_pollObst_inv h with ⟨-, rfl⟩ | ⟨-, rfl⟩ <;> simp +contextual [Instr.context]
  | turnHold => rcases exec_turnHold_inv h with ⟨-, rfl⟩ | ⟨-, rfl⟩ <;> simp [Instr.context]

theorem handler_keeps_main_registers (hctx : i.context = .interrupt) (h : exec i s = .next t) : sameMainOwned s t := by
  cases i with
  | tick => rcases exec_tick_inv h with ⟨u, rfl, ⟨-, rfl⟩ | ⟨-, b, -, rfl⟩⟩ <;> simp [sameMainOwned]
  | txc => rcases exec_txc_inv h with ⟨-, rfl⟩ | ⟨-, -, rfl⟩ | ⟨-, -, b, -, rfl⟩ <;> simp [sameMainOwned]
  | echoRise | echoFall | rx b => cases h; simp [sameMainOwned]
  | _ => cases hctx

/-- A main-loop row is neither of the two the table gives these registers to. -/
theorem mainLoop_keeps_interrupt_registers (hmain : i ≠ .main) (hctx : i.context = .mainLoop) (h : exec i s = .next t) :
    sameInterruptOwned s t := by
  have hother : i ≠ .reset ∧ i ≠ .tick ∧ i ≠ .echoRise := by refine ⟨?_, ?_, ?_⟩ <;> rintro rfl <;> cases hctx
  obtain ⟨hreset, htick, hrise⟩ := hother
  obtain ⟨-, hcounters, hpulse, -⟩ := onlyOwnersWrite i s t hmain hreset h
  have hsame := mt hcounters htick
  have hpulse' := mt hpulse (not_or.mpr ⟨htick, hrise⟩)
  simp only [not_or, not_not] at hsame hpulse'
  obtain ⟨htrigCnt, hledCnt, hled, htrig⟩ := hsame
  exact ⟨htrigCnt, hledCnt, hled, htrig, hpulse'⟩

/-- Settles O56: what the ownership table gives to one context it does not give to the other, and `MAIN` runs a main-loop
step. -/
theorem contextsKeepToTheirOwnRegisters : Obligations.ContextsKeepToTheirOwnRegisters := by
  intro i s t h
  refine exec_induction (P := fun i s t => (i.context = .interrupt → sameMainOwned s t) ∧
    (i.context = .mainLoop → sameInterruptOwned s t)) ?_ ?_ h
  · intro i s t hmain h
    constructor <;> intro hctx
    · exact handler_keeps_main_registers hctx h
    · exact mainLoop_keeps_interrupt_registers hmain hctx h
  · intro j s t hj hstep
    refine ⟨nofun, fun _ => hstep.2 ?_⟩
    exact context_of_format_mls hj

end Sys2Proof.Machine
end

section
/-! PROOFS. Reset and the invariant (R47, R52, R260): it holds after reset, every step keeps it, so it holds of every
reachable state. -/

namespace Sys2Proof.Machine

variable {s t : State}

/-! ### Reset (R52, R260) -/

theorem digit_of_nothing_written {k : Nat} (hmem : s.mem = []) (hrom : s.cfg.romShape) (hk : k < 3) :
    digit s k = 0x30#8 := by
  obtain ⟨-, -, hrow⟩ := hrom
  have haddr : msgAddr 9 k / 256 = 9 ∧ msgAddr 9 k % 256 = k := by simp only [msgAddr]; omega
  simp only [digit, hmem, Memory.read, Memory.lookup, unlisted, haddr.1, haddr.2, hrow]
  interval_cases k <;> rfl

theorem dutyOut_toNat {percent : Nat} (bias : Fin 71) (h : percent < 128) :
    (dutyOut percent bias).toNat = percent - bias.val := by
  rw [dutyOut, BitVec.toNat_ofNat, Nat.mod_eq_of_lt (by omega)]

/-- Settles O50: `execReset` writes R52's table; only the digits and the duty ports depend on the configuration. -/
theorem resetPutsEveryRegisterAtItsValue : Obligations.ResetPutsEveryRegisterAtItsValue := by
  intro s
  refine ⟨_, rfl, rfl, rfl, rfl, rfl, rfl, rfl, rfl, ?digits, rfl, rfl, rfl, rfl, rfl, rfl, rfl, rfl, rfl, rfl, rfl, rfl,
    rfl, rfl, rfl, rfl, rfl, rfl, ?duty0, ?duty1, fun hset => ⟨?default0, ?default1⟩⟩
  case digits =>
    intro hrom
    exact ⟨digit_of_nothing_written rfl hrom (by decide), digit_of_nothing_written rfl hrom (by decide),
      digit_of_nothing_written rfl hrom (by decide)⟩
  case duty0 => exact dutyOut_toNat s.cfg.bias0 s.cfg.dutySet.spd100.isLt
  case duty1 => exact dutyOut_toNat s.cfg.bias1 s.cfg.dutySet.spd100.isLt
  case default0 => exact (dutyOut_toNat s.cfg.bias0 s.cfg.dutySet.spd100.isLt).trans (by rw [hset]; rfl)
  case default1 => exact (dutyOut_toNat s.cfg.bias1 s.cfg.dutySet.spd100.isLt).trans (by rw [hset]; rfl)

theorem maxLedPeriod_pos (c : Config) : 0 < maxLedPeriod c := by
  unfold maxLedPeriod
  split <;> decide

theorem resetWith_inv {c : Config} (events : List EvtWord) (hconst : c.documentConstants) (hrom : c.romShape) :
    (State.resetWith c events).Inv := by
  have hcfg : (State.resetWith c events).cfgOk := ⟨hconst, hrom⟩
  have hdigit : ∀ k < 3, isAsciiDigit (digit (State.resetWith c events) k) = true := fun k hk => by
    rw [digit_of_nothing_written rfl hrom hk]; decide
  obtain ⟨hmsg, htrig, -⟩ := hconst
  have hcounters : (State.resetWith c events).countersOk :=
    ⟨show 0 < c.pMsg by omega, show 0 < c.pTrig by omega, maxLedPeriod_pos c, Nat.zero_le _⟩
  have hcursor : 0 < rowLen c mParado := by
    have := rowLen_bounds hrom (m := mParado) (by decide)
    omega
  have hranges : (State.resetWith c events).rangesOk :=
    ⟨Nat.zero_le _, show mParado.toNat < 10 by decide, Nat.zero_lt_succ _, hcursor, Nat.zero_le _, Nat.zero_le _⟩
  have hmem : (State.resetWith c events).memOk :=
    ⟨rfl, hdigit 0 (by decide), hdigit 1 (by decide), hdigit 2 (by decide)⟩
  exact ⟨hcfg, hcounters, hranges, hmem, nofun, nofun⟩

/-- Settles O51: `State.reset` is the state after reset under the default configuration. -/
theorem invariantHoldsAfterReset : Obligations.InvariantHoldsAfterReset :=
  ⟨resetWith_inv (c := Config.default) [] (by decide) (by decide),
    fun _ events hconst hrom => resetWith_inv events hconst hrom⟩

/-! ### A step with nothing placed (R44) -/

/-- The environment never chooses the reserved events (R87). -/
theorem fetchEvent_of_due_nil (h : s.due = []) :
    (evField (fetchEvent s).1).toNat < 6 ∧ (fetchEvent s).2 = { s with envCount := s.envCount + 1 } := by
  have hev := (Config.environment s.envCount).1.isLt
  simp only [fetchEvent, h, evField_evtWord, BitVec.toNat_ofNat, and_true]
  omega

/-- Settles O6: the environment's word has `ev` 0 to 5, so it decodes to an event operation. -/
theorem stepWithNothingPlacedRunsSomeEvent : Obligations.StepWithNothingPlacedRunsSomeEvent := by
  intro s hdue
  obtain ⟨hev, hrest⟩ := fetchEvent_of_due_nil hdue
  rcases decodeEvt_cases (fetchEvent s).1 with ⟨i, hi, hfmt, hwf⟩ | hres
  · exact ⟨i, hfmt, hwf, by rw [step_of_decodeEvt_ok hi, hrest, lowerStrobe]⟩
  · omega

end Sys2Proof.Machine
end

section
/-! PROOFS. Every step keeps the invariant of R47: the handlers, the main-loop steps, and the states reachable from reset. -/

namespace Sys2Proof.Machine

variable {i : Instr} {s t : State}

/-! ### Bounds (R25, R26, R47) -/

theorem lt_rowLen_of_memRead_ok {m : Nibble} {k : Nat} {b : Byte} (h : memRead s m k = .ok b) : k < rowLen s.cfg m := by
  unfold memRead at h
  split at h
  · cases h
  · unfold rowLen
    cases hrow : s.cfg.msgRom[m.toNat]? with
    | none => simp [hrow] at h
    | some row =>
      simp only [hrow, Option.getD_some] at h ⊢
      by_contra hk
      simp [List.getElem?_eq_none (Nat.le_of_not_lt hk)] at h

/-- A period counter after a tick (R103 to R105) is below its period, or 0. -/
theorem toNat_count_lt {w : Nat} (c : BitVec w) {period bound : Nat} (hpos : 0 < bound) (hle : period ≤ bound) :
    (if periodReached (c.toNat + 1) period then 0#w else c + 1#w).toNat < bound := by
  split
  · simpa using hpos
  · next hnot =>
    have hlt : c.toNat + 1 < period := by simpa [periodReached] using hnot
    have hone : (1#w).toNat ≤ 1 := by rw [BitVec.toNat_ofNat]; exact Nat.mod_le _ _
    have hsum : (c + 1#w).toNat ≤ c.toNat + (1#w).toNat := by rw [BitVec.toNat_add]; exact Nat.mod_le _ _
    omega

theorem toNat_hold_le (c : Half) : (if c = 0#16 then c else c - 1#16).toNat ≤ c.toNat := by
  split
  · exact le_rfl
  · bv_omega

/-- The largest distance, from a pulse of 65535 ticks (R25). -/
theorem distanceOf_le {c : Config} (hc : c.documentConstants) (d : Half) :
    (BitVec.ofNat 16 (distanceOf c d.toNat)).toNat ≤ 56196 := by
  have hd := d.isLt
  have hexact : 17150 * d.toNat / 20000 ≤ 56196 := by omega
  rw [distanceOf_document hc, BitVec.toNat_ofNat]
  exact (Nat.mod_le _ _).trans hexact

theorem ledPeriodOf_le {c : Config} (hc : c.documentConstants) {dist : Nat} (hd : dist ≤ 56196) :
    ledPeriodOf c dist ≤ maxLedPeriod c := by
  have hhigh : (dist - 15) * 200 / 3 ≤ 3745400 := by omega
  cases hp : c.ledLowPolicy with
  | clamp => simpa [ledPeriodOf_clamp hc hp, maxLedPeriod, hp] using hhigh
  | wrap16 =>
    have hwrap : (dist + 65536 - 15) % 65536 ≤ 65535 := by omega
    have hlow : (dist + 65536 - 15) % 65536 * 200 / 3 ≤ 4369000 := Nat.div_le_of_le_mul (by omega)
    simp only [ledPeriodOf_wrap16 hc hp, maxLedPeriod, hp]
    split
    · exact hlow
    · exact hhigh.trans (by decide)

/-! ### The handlers (R240) -/

/-- A handler leaves the main loop's registers alone, so it keeps the invariant once its counters and the cursor stay in
bounds. -/
theorem inv_of_handler (hs : s.Inv) (hctx : i.context = .interrupt) (h : exec i s = .next t) (hcounters : t.countersOk)
    (hcursor : t.cursor.toNat < rowLen s.cfg s.msgSel) : t.Inv := by
  obtain ⟨hcfg, -, ⟨hpc, hsel, hmsg, -, hdist, hled⟩, hmem, hlast⟩ := hs
  obtain ⟨hcfg', -, -⟩ := exec_keeps_cfg_due_envCount h
  obtain ⟨hdist', hled', hmem', -, htCmd', htMsg', hlast', hdir', -, hsel', hpc'⟩ := handler_keeps_main_registers hctx h
  refine ⟨?_, hcounters, ?_, ?_, ?_⟩
  · rwa [State.cfgOk, hcfg']
  · rw [State.rangesOk, hpc', hsel', htMsg', hcfg', hdist', hled']
    exact ⟨hpc, hsel, hmsg, hcursor, hdist, hled⟩
  · rwa [State.memOk, digit, digit, digit, hcfg', hmem']
  · rwa [State.lastCmdOk, hpc', htCmd', hlast', hdir']

/-- The counters after a completed `TICK` (R103, R104, R105, R193), and the cursor, which it leaves alone. -/
theorem exec_tick_counters (h : exec .tick s = .next t) :
    t.cntMsg = (if periodReached (s.cntMsg.toNat + 1) s.cfg.pMsg then 0#16 else s.cntMsg + 1#16) ∧
      t.cntTrig = (if periodReached (s.cntTrig.toNat + 1) s.cfg.pTrig then 0#16 else s.cntTrig + 1#16) ∧
      t.cntLed = (if periodReached (s.cntLed.toNat + 1) s.ledPeriod.toNat then 0#32 else s.cntLed + 1#32) ∧
      t.holdCnt = (if s.holdCnt = 0#16 then s.holdCnt else s.holdCnt - 1#16) ∧ t.cursor = s.cursor := by
  rcases exec_tick_inv h with ⟨u, rfl, ⟨hp, rfl⟩ | ⟨hp, b, -, rfl⟩⟩ <;> simp [hp]

theorem tick_keeps_inv (hs : s.Inv) (h : exec .tick s = .next t) : t.Inv := by
  have ⟨_, ⟨hmsg, htrig, _, hhold⟩, ⟨_, _, _, hcursor, _, hled⟩, _⟩ := hs
  obtain ⟨hmsg', htrig', hled', hhold', hcursor'⟩ := exec_tick_counters h
  have hcfg' := (exec_keeps_cfg_due_envCount h).1
  refine inv_of_handler hs rfl h ?_ (hcursor' ▸ hcursor)
  rw [State.countersOk, hcfg', hmsg', htrig', hled', hhold']
  exact ⟨toNat_count_lt _ (Nat.zero_lt_of_lt hmsg) le_rfl, toNat_count_lt _ (Nat.zero_lt_of_lt htrig) le_rfl,
    toNat_count_lt _ (maxLedPeriod_pos _) hled, (toNat_hold_le _).trans hhold⟩

theorem txc_keeps_inv (hs : s.Inv) (h : exec .txc s = .next t) : t.Inv := by
  have ⟨⟨_, hrom⟩, hcounters, ⟨_, hsel, _, hcursor, _⟩, _⟩ := hs
  have hlen := rowLen_bounds hrom hsel
  rcases exec_txc_inv h with ⟨-, rfl⟩ | ⟨-, -, rfl⟩ | ⟨-, -, b, hb, rfl⟩
  · exact hs
  · refine inv_of_handler hs rfl h hcounters ?_
    simp only [byteSent_cursor, BitVec.toNat_ofNat]
    omega
  · refine inv_of_handler hs rfl h hcounters ?_
    have hnext := lt_rowLen_of_memRead_ok hb
    simp only [txWrite_cursor, byteSent_cursor, BitVec.toNat_add, BitVec.toNat_ofNat]
    omega

theorem rx_keeps_inv {b : Byte} (hs : s.Inv) (h : exec (.rx b) s = .next t) : t.Inv := by
  cases h
  rw [submit_frame]
  exact hs

/-! ### The main-loop steps (R211) -/

/-- Moving on to a step other than `EXEC`. -/
theorem goTo_keeps_inv (hs : s.Inv) (hexec : s.mlPc ≠ pcExec) {pc : Nibble} (hle : pc.toNat ≤ 10) (hpc : pc ≠ pcExec) :
    (goTo pc s).Inv := by
  obtain ⟨hcfg, hcounters, ⟨-, hranges⟩, hmem, -, hlast⟩ := hs
  exact ⟨hcfg, hcounters, ⟨hle, hranges⟩, hmem, fun h => absurd h hpc, fun _ => hlast hexec⟩

/-- A command chooses a message of the table, starts a full hold or none, goes to `SEL`, `TURN_HOLD` or back to `POLL_ECHO`,
and the obstacle code does not leave the vehicle moving forward (R180 to R190). -/
theorem exec_command_inv (hi : i.format = .cmd) (h : exec i s = .next t) :
    (t.tMsg = s.tMsg ∨ t.tMsg.toNat < 10) ∧ (t.holdCnt = s.holdCnt ∨ t.holdCnt = s.cfg.turnHoldTicks) ∧
      t.mlPc ∈ [pcSel, pcTurnHold, pcPollEcho] ∧ (t.dir = .forward → i ≠ .obst) := by
  cases i with
  | fwd | back | stop | obst | ccw | cw | report | spd70 | spd80 | spd100 | unknown op => cases h; simp
  | _ => cases hi

theorem exec_keeps_inv (hs : s.Inv) (hpc : s.mlPc = pcExec) (h : exec .exec s = .next t) : t.Inv := by
  obtain ⟨hcfg, ⟨hmsgCnt, htrig, hledCnt, hhold⟩, ⟨-, hsel, hmsg, hcursor, hdist, hled⟩, hmem, hcmd, -⟩ := hs
  have hframe := exec_exec_frame h
  rw [exec_exec_eq_decoded] at h
  obtain ⟨hmsg', hhold', hpc', hdir'⟩ := exec_command_inv (decodeCmd_format s.tCmd) h
  have hpcs : t.mlPc.toNat ≤ 10 ∧ t.mlPc ≠ pcExec := by
    simp only [List.mem_cons, List.not_mem_nil, or_false] at hpc'
    rcases hpc' with e | e | e <;> rw [e] <;> decide
  have hlast : t.dir = .forward → s.lastCmd ≠ opObst := fun hd he =>
    hdir' hd (by rw [hcmd hpc, he]; decide)
  rw [hframe]
  refine ⟨hcfg, ⟨hmsgCnt, htrig, hledCnt, ?_⟩, ⟨hpcs.1, hsel, ?_, hcursor, hdist, hled⟩, hmem,
    fun he => absurd he hpcs.2, fun _ => hlast⟩
  · rcases hhold' with e | e
    · exact e ▸ hhold
    · exact e ▸ le_rfl
  · rcases hmsg' with e | e
    · exact e ▸ hmsg
    · exact e

theorem sel_keeps_inv (hs : s.Inv) (hexec : s.mlPc ≠ pcExec) (h : exec .sel s = .next t) : t.Inv := by
  obtain ⟨b, -, rfl⟩ := exec_sel_inv h
  obtain ⟨hcfg, ⟨hmsgCnt, hcounters⟩, ⟨-, -, hmsg, -, hderived⟩, hmem, -, hlast⟩ := hs
  have hlen := rowLen_bounds hcfg.2 hmsg
  have hcursor : 0 < rowLen s.cfg s.tMsg := by omega
  exact ⟨hcfg, ⟨Nat.zero_lt_of_lt hmsgCnt, hcounters⟩, ⟨Nat.zero_le _, hmsg, hmsg, hcursor, hderived⟩, hmem, nofun,
    fun _ => hlast hexec⟩

/-- The digits `EST_FMT` writes are ASCII digits, in canonical form (R64, R134). -/
theorem estFmt_keeps_memOk (hwf : Memory.wf s.cfg s.mem = true) (h : exec .estFmt s = .next t) : t.memOk := by
  cases h
  refine ⟨writeDigits_wf _ _ _ hwf, ?_, ?_, ?_⟩
  · rw [digit, writeDigits_read_zero]; exact isAsciiDigit_digitChar _ _
  · rw [digit, writeDigits_read_one]; exact isAsciiDigit_digitChar _ _
  · rw [digit, writeDigits_read_two]; exact isAsciiDigit_digitChar _ _

/-- The step `ML_PC` names keeps the invariant: those but `EXEC`, `POLL_CMD` and `SEL` change at most one register the
invariant speaks of and move on. -/
theorem mainLoopStep_keeps_inv (hs : s.Inv) (hi : decodeMls s.mlPc = .ok i) (h : exec i s = .next t) : t.Inv := by
  by_cases he : i = .exec
  · subst he
    exact exec_keeps_inv hs (eq_pcExec_of_decodeMls hi) h
  have hexec := ne_pcExec_of_decodeMls hi he
  have ⟨hcfg, hcounters, hranges, hmem, hlast⟩ := hs
  have ⟨hpc, hranges'⟩ := hranges
  have ⟨hsel, hmsg, hcursor, hdist, hled⟩ := hranges'
  cases i with
  | exec => contradiction
  | pollEcho =>
    rcases exec_pollEcho_inv h with ⟨-, rfl⟩ | ⟨-, rfl⟩
    · exact goTo_keeps_inv (pc := pcEstLoad) hs hexec (by decide) (by decide)
    · exact goTo_keeps_inv hs hexec (by decide) (by decide)
  | estLoad =>
    cases h
    exact goTo_keeps_inv (pc := pcEstDist) hs hexec (by decide) (by decide)
  | estDist =>
    cases h
    have hdist' := distanceOf_le hcfg.1 s.tD
    exact goTo_keeps_inv (pc := pcEstLed) (s := { s with distance := BitVec.ofNat 16 (distanceOf s.cfg s.tD.toNat) })
      ⟨hcfg, hcounters, ⟨hpc, hsel, hmsg, hcursor, hdist', hled⟩, hmem, hlast⟩ hexec (by decide) (by decide)
  | estLed =>
    cases h
    have hperiod : (BitVec.ofNat 32 (ledPeriodOf s.cfg s.distance.toNat)).toNat ≤ maxLedPeriod s.cfg := by
      rw [BitVec.toNat_ofNat]
      exact (Nat.mod_le _ _).trans (ledPeriodOf_le hcfg.1 hdist)
    exact goTo_keeps_inv (pc := pcEstFmt)
      (s := { s with ledPeriod := BitVec.ofNat 32 (ledPeriodOf s.cfg s.distance.toNat) })
      ⟨hcfg, hcounters, ⟨hpc, hsel, hmsg, hcursor, hdist, hperiod⟩, hmem, hlast⟩ hexec (by decide) (by decide)
  | estFmt =>
    have hmem' := estFmt_keeps_memOk hmem.1 h
    cases h
    exact ⟨hcfg, hcounters, ⟨show pcPollObst.toNat ≤ 10 by decide, hranges'⟩, hmem', nofun,
      fun _ => hlast.2 hexec⟩
  | pollObst =>
    rcases exec_pollObst_inv h with ⟨-, rfl⟩ | ⟨-, rfl⟩
    · rw [submit_frame]
      exact goTo_keeps_inv (pc := pcPollCmd) hs hexec (by decide) (by decide)
    · exact goTo_keeps_inv hs hexec (by decide) (by decide)
  | pollCmd =>
    rcases exec_pollCmd_inv h with ⟨-, rfl⟩ | ⟨-, rfl⟩
    · exact ⟨hcfg, hcounters, ⟨show pcExec.toNat ≤ 10 by decide, hranges'⟩, hmem, fun _ => rfl,
        fun hne => absurd rfl hne⟩
    · exact goTo_keeps_inv hs hexec (by decide) (by decide)
  | turnHold =>
    rcases exec_turnHold_inv h with ⟨-, rfl⟩ | ⟨-, rfl⟩
    · exact goTo_keeps_inv hs hexec (by decide) (by decide)
    · exact hs
  | turnEnd =>
    cases h
    exact ⟨hcfg, hcounters, ⟨show pcSel.toNat ≤ 10 by decide, hranges'⟩, hmem, nofun, nofun⟩
  | sel => exact sel_keeps_inv hs hexec h
  | _ => cases decodeMls_format hi

/-! ### Every step, every reachable state -/

/-- Settles O52: an event is a handler, `RESET`, or `MAIN`, which runs the step its register names. -/
theorem everyStepKeepsTheInvariant : Obligations.EveryStepKeepsTheInvariant := by
  intro s t hs h
  obtain ⟨i, hi, hx⟩ := step_inv h
  have hstart : (lowerStrobe (fetchEvent s).2).Inv := by rw [fetchEvent_frame]; exact hs
  cases i with
  | tick => exact tick_keeps_inv hstart hx
  | echoRise | echoFall => cases hx; exact hstart
  | rx b => exact rx_keeps_inv hstart hx
  | txc => exact txc_keeps_inv hstart hx
  | main =>
    obtain ⟨j, hj, hrow⟩ := exec_main_inv hx
    exact mainLoopStep_keeps_inv hstart hj hrow
  | reset =>
    cases hx
    have ⟨⟨hconst, hrom⟩, _⟩ := hstart
    exact resetWith_inv [] hconst hrom
  | _ => cases decodeEvt_format hi

/-- The invariant and the line feeds (R85) hold of every state a run from reset passes through. -/
theorem inv_of_reachable (h : Reachable s) : s.Inv ∧ s.cfg.newlineTerminated := by
  induction h with
  | reset c events hconst hrom => exact ⟨resetWith_inv events hconst hrom.1, hrom.2⟩
  | step s t _ ht ih =>
    obtain ⟨i, -, hx⟩ := step_inv ht
    have hcfg : t.cfg = s.cfg := by simpa using (exec_keeps_cfg_due_envCount hx).1
    exact ⟨everyStepKeepsTheInvariant s t ih.1 ht, hcfg ▸ ih.2⟩

theorem isAsciiDigit_bounds {b : Byte} (h : isAsciiDigit b = true) : 0x30 ≤ b.toNat ∧ b.toNat ≤ 0x39 := by
  simpa [isAsciiDigit, BitVec.le_def] using h

/-- Settles O53: the clauses of the invariant, read for each LED policy. -/
theorem reachableStatesMeetR47 : Obligations.ReachableStatesMeetR47 := by
  intro s h
  obtain ⟨⟨⟨-, hrom⟩, hcounters, hranges, ⟨-, hd0, hd1, hd2⟩, -, hlast⟩, hnewline⟩ := inv_of_reachable h
  obtain ⟨hmsgCnt, htrig, hledCnt, hhold⟩ := hcounters
  obtain ⟨hpc, hsel, -, hcursor, hdist, hled⟩ := hranges
  refine ⟨hmsgCnt, htrig, hcursor, ?_, by omega, hpc, hdist, ?_, ?_, ?_, ?_, hhold, ?_, hrom, hnewline⟩
  · rw [dirOut]
    cases s.dir <;> decide
  · intro hp
    simp only [maxLedPeriod, hp] at hled hledCnt
    omega
  · intro hp
    simp only [maxLedPeriod, hp] at hled hledCnt
    omega
  · intro k hk
    interval_cases k
    · exact isAsciiDigit_bounds hd0
    · exact isAsciiDigit_bounds hd1
    · exact isAsciiDigit_bounds hd2
  · intro hobst
    exact hlast (by rw [hobst]; decide)
  · intro hset
    rw [hset]
    cases s.dutyPct <;> decide

end Sys2Proof.Machine
end

section
/-! PROOFS. The family of spec/20_memory.md: what a read of the message space answers (R62), which operations change it
(R64, R75), and a placed program as a run of its operations (R71, R91). -/

namespace Sys2Proof.Machine

variable {i : Instr} {s t : State} {m : Nibble} {k : Nat}

/-! ### Message reads (R62) -/

theorem exists_byte_of_lt_rowLen {c : Config} (h : k < rowLen c m) :
    ∃ row b, c.msgRom[m.toNat]? = some row ∧ row[k]? = some b := by
  unfold rowLen at h
  cases hrow : c.msgRom[m.toNat]? with
  | none => simp [hrow] at h
  | some row =>
    simp only [hrow, Option.getD_some] at h
    exact ⟨row, row[k], rfl, List.getElem?_eq_getElem h⟩

/-- A read at an address of the table: the digit cells in message 9's first three places, the table's byte elsewhere. -/
theorem memRead_of_row {row : List Byte} {b : Byte} (hm : m.toNat < 10) (hrow : s.cfg.msgRom[m.toNat]? = some row)
    (hb : row[k]? = some b) :
    memRead s m k = if m.toNat = 9 ∧ k < 3 then
      if isAsciiDigit (digit s k) then .ok (digit s k) else .error .digitOutOfRange else .ok b := by
  simp only [memRead, if_neg (Nat.not_le.mpr hm), hrow, hb]

theorem memRead_digit (hrom : s.cfg.romShape) (hk : k < 3) :
    memRead s mDist k = if isAsciiDigit (digit s k) then .ok (digit s k) else .error .digitOutOfRange := by
  obtain ⟨-, -, hrow⟩ := hrom
  have hb : Config.reportRow[k]? = some 0x30#8 := by interval_cases k <;> rfl
  exact (memRead_of_row (by decide) hrow hb).trans (if_pos ⟨rfl, hk⟩)

theorem memRead_report_tail {b : Byte} (hrom : s.cfg.romShape) (hk : 3 ≤ k) (hb : Config.reportRow[k]? = some b) :
    memRead s mDist k = .ok b := by
  obtain ⟨-, -, hrow⟩ := hrom
  exact (memRead_of_row (by decide) hrow hb).trans (if_neg fun h => Nat.not_lt.mpr hk h.2)

/-- A read outside the table is the fault whatever the shape of the table. -/
theorem memRead_outside (h : 10 ≤ m.toNat ∨ rowLen s.cfg m ≤ k) : memRead s m k = .error .messageOutOfRange := by
  by_cases hm : 10 ≤ m.toNat
  · exact if_pos hm
  · have hk := h.resolve_left hm
    unfold rowLen at hk
    unfold memRead
    rw [if_neg hm]
    cases hrow : s.cfg.msgRom[m.toNat]? with
    | none => rfl
    | some row =>
      simp only [hrow, Option.getD_some] at hk
      simp only [List.getElem?_eq_none hk]

/-- Settles O59: a read inside a row, at a digit, in the tail of the report, and outside the table. -/
theorem messageReadsAreInsideTheSpace : Obligations.MessageReadsAreInsideTheSpace := by
  intro s m k hrom
  refine ⟨?row, ?digit, ?badDigit, ?tail, memRead_outside⟩
  case row =>
    intro hm hk
    obtain ⟨row, b, hrow, hb⟩ := exists_byte_of_lt_rowLen hk
    exact ⟨row, b, hrow, hb, (memRead_of_row (by omega) hrow hb).trans (if_neg fun h => by omega)⟩
  case digit =>
    rintro rfl hk hd
    exact (memRead_digit hrom hk).trans (if_pos hd)
  case badDigit =>
    rintro rfl hk hd
    exact (memRead_digit hrom hk).trans (if_neg (by simp [hd]))
  case tail =>
    exact ⟨memRead_report_tail hrom (by decide) rfl, memRead_report_tail hrom (by decide) rfl,
      memRead_report_tail hrom (by decide) rfl⟩

/-! ### Who writes the message space (R64, R75) -/

theorem mem_eq_of_ne_estFmt (hmain : i ≠ .main) (hreset : i ≠ .reset) (hfmt : i ≠ .estFmt)
    (h : exec i s = .next t) : t.mem = s.mem := by
  obtain ⟨-, -, -, -, -, -, -, -, -, -, -, hmem, -⟩ := onlyOwnersWrite i s t hmain hreset h
  exact not_not.mp (mt hmem hfmt)

/-- `EST_FMT` is the only step of its number. -/
theorem eq_pcEstFmt_of_decodeMls {pc : Nibble} (h : decodeMls pc = .ok .estFmt) : pc = pcEstFmt := by
  unfold decodeMls at h
  split at h <;> cases h
  rfl

theorem exec_main_mem_eq (hpc : s.mlPc ≠ pcEstFmt) (h : exec .main s = .next t) : t.mem = s.mem := by
  obtain ⟨j, hj, hx⟩ := exec_main_inv h
  have hformat := decodeMls_format hj
  refine mem_eq_of_ne_estFmt ?_ ?_ ?_ hx <;> rintro rfl
  · cases hformat
  · cases hformat
  · exact hpc (eq_pcEstFmt_of_decodeMls hj)

theorem exec_keeps_memory_wf (h : exec i s = .next t) (hwf : Memory.wf s.cfg s.mem = true) :
    Memory.wf t.cfg t.mem = true := by
  rw [(exec_keeps_cfg_due_envCount h).1]
  refine exec_induction (P := fun _ s t => Memory.wf s.cfg s.mem = true → Memory.wf s.cfg t.mem = true) ?_
    (fun _ _ _ _ hj => hj) h hwf
  intro i s t hmain h hwf
  by_cases hreset : i = .reset
  · subst hreset
    cases h
    exact Memory.wf_nil s.cfg
  by_cases hfmt : i = .estFmt
  · subst hfmt
    cases h
    exact writeDigits_wf _ _ _ hwf
  · rwa [mem_eq_of_ne_estFmt hmain hreset hfmt h]

/-- Settles O57: a read depends on the configuration and the cells only, and of the rows that are not `RESET` only
`EST_FMT` owns the cells. -/
theorem messageSpaceIsWrittenByEstFmtOnly : Obligations.MessageSpaceIsWrittenByEstFmtOnly := by
  intro i s t h
  refine ⟨fun hreset hfmt hstep => memRead_congr (exec_keeps_cfg_due_envCount h).1 ?_, exec_keeps_memory_wf h⟩
  by_cases hmain : i = .main
  · subst hmain
    exact exec_main_mem_eq (fun hpc => hstep ⟨rfl, hpc⟩) h
  · exact mem_eq_of_ne_estFmt hmain hreset hfmt h

/-! ### Placing events commutes with every operation (R71, R91)

No operation reads or writes the placed events, so it does the same with more of them placed. -/

/-- The answer with its next state, if it has one, changed by a function. -/
def mapNext (f : State → State) : Result → Result
  | .next t => .next (f t)
  | .fault e => .fault e
  | .refused r => .refused r

@[simp] theorem mapNext_next (f : State → State) (t : State) : mapNext f (.next t) = .next (f t) := rfl
@[simp] theorem mapNext_fault (f : State → State) (e : Fault) : mapNext f (.fault e) = .fault e := rfl
@[simp] theorem mapNext_refused (f : State → State) (r : Refusal) : mapNext f (.refused r) = .refused r := rfl

theorem finish_map (f : State → State) (x : Except Fault State) : finish (x.map f) = mapNext f (finish x) := by
  cases x <;> rfl

/-- `MAIN` as the step its register names (R211), also where that step stops. -/
theorem exec_main_of_decodeMls_ok (h : decodeMls s.mlPc = .ok i) : exec .main s = exec i s := by
  simp only [exec, execMain]
  unfold decodeMls at h
  split at h <;> cases h <;> simp only [*]

theorem exec_main_of_decodeMls_error {e : DecodeError} (h : decodeMls s.mlPc = .error e) :
    exec .main s = .fault .reservedMainStep := by
  simp only [exec, execMain]
  split
  case h_12 => rfl
  all_goals
    rename_i hpc
    rw [hpc] at h
    cases h

section
variable (es : List Instr)

@[simp] theorem withEvents_msgSel (s : State) : (s.withEvents es).msgSel = s.msgSel := rfl
@[simp] theorem withEvents_tMsg (s : State) : (s.withEvents es).tMsg = s.tMsg := rfl
@[simp] theorem withEvents_cursor (s : State) : (s.withEvents es).cursor = s.cursor := rfl

@[simp] theorem memRead_withEvents (s : State) (m : Nibble) (k : Nat) :
    memRead (s.withEvents es) m k = memRead s m k := rfl

@[simp] theorem msgLen_withEvents (s : State) (m : Nibble) : msgLen (s.withEvents es) m = msgLen s m := rfl

theorem exec_command_withEvents (hi : i.format = .cmd) (s : State) :
    exec i (s.withEvents es) = mapNext (State.withEvents es) (exec i s) := by
  cases i with
  | fwd | back | stop | obst | ccw | cw | report | spd70 | spd80 | spd100 | unknown op => rfl
  | _ => cases hi

theorem submit_withEvents (c : Byte) (s : State) : submit c (s.withEvents es) = (submit c s).withEvents es := by
  unfold submit
  rw [apply_ite (State.withEvents es)]
  rfl

theorem step1Pulse_withEvents (s : State) : step1Pulse (s.withEvents es) = (step1Pulse s).withEvents es := by
  unfold step1Pulse
  rw [apply_ite (State.withEvents es)]
  rfl

theorem step2TrigLow_withEvents (s : State) : step2TrigLow (s.withEvents es) = (step2TrigLow s).withEvents es := rfl

theorem step4Trigger_withEvents (s : State) : step4Trigger (s.withEvents es) = (step4Trigger s).withEvents es := by
  unfold step4Trigger
  rw [apply_ite (State.withEvents es)]
  rfl

theorem step5Led_withEvents (s : State) : step5Led (s.withEvents es) = (step5Led s).withEvents es := by
  unfold step5Led
  rw [apply_ite (State.withEvents es)]
  rfl

theorem holdTimer_withEvents (s : State) : holdTimer (s.withEvents es) = (holdTimer s).withEvents es := by
  unfold holdTimer
  rw [apply_ite (State.withEvents es)]
  rfl

theorem step3Resend_withEvents (s : State) :
    step3Resend (s.withEvents es) = (step3Resend s).map (State.withEvents es) := by
  unfold step3Resend
  rw [apply_ite (Except.map _)]
  refine if_congr Iff.rfl ?_ rfl
  simp only [withEvents_msgSel, memRead_withEvents]
  cases memRead s s.msgSel 0 <;> rfl

theorem exec_tick_withEvents (s : State) :
    exec .tick (s.withEvents es) = mapNext (State.withEvents es) (exec .tick s) := by
  simp only [exec, execTick, step1Pulse_withEvents, step2TrigLow_withEvents, step3Resend_withEvents]
  cases step3Resend (step2TrigLow (step1Pulse s)) with
  | error f => rfl
  | ok u => simp only [Except.map, mapNext_next, step4Trigger_withEvents, step5Led_withEvents, holdTimer_withEvents]

theorem txComplete_withEvents (s : State) :
    txComplete (s.withEvents es) = (txComplete s).map (State.withEvents es) := by
  simp only [txComplete, withEvents_msgSel, withEvents_cursor, memRead_withEvents, msgLen_withEvents]
  cases msgLen s s.msgSel with
  | error f => rfl
  | ok len =>
    rw [apply_ite (Except.map _)]
    refine if_congr Iff.rfl rfl ?_
    cases memRead s s.msgSel (s.cursor.toNat + 1) <;> rfl

theorem exec_row_withEvents (hmain : i ≠ .main) (s : State) :
    exec i (s.withEvents es) = mapNext (State.withEvents es) (exec i s) := by
  cases i with
  | main => contradiction
  | fwd | back | stop | obst | ccw | cw | report | spd70 | spd80 | spd100 | unknown op =>
    exact exec_command_withEvents es rfl s
  | echoRise | echoFall | reset | estLoad | estDist | estLed | estFmt | turnEnd => rfl
  | rx b => simp only [exec, execRx, submit_withEvents, mapNext_next]
  | tick => exact exec_tick_withEvents es s
  | txc =>
    simp only [exec, execTxc, txComplete_withEvents, finish_map]
    rw [apply_ite (mapNext _)]
    rfl
  | pollEcho | pollCmd | turnHold =>
    simp only [exec, execPollEcho, execPollCmd, execTurnHold]
    rw [apply_ite (mapNext _)]
    rfl
  | pollObst =>
    simp only [exec, execPollObst, submit_withEvents]
    rw [apply_ite (mapNext _)]
    rfl
  | exec =>
    rw [exec_exec_eq_decoded, exec_exec_eq_decoded]
    exact exec_command_withEvents es (decodeCmd_format _) s
  | sel =>
    simp only [exec, execSel, withEvents_tMsg, memRead_withEvents]
    cases memRead s s.tMsg 0 <;> rfl

theorem exec_withEvents (i : Instr) (s : State) :
    exec i (s.withEvents es) = mapNext (State.withEvents es) (exec i s) := by
  by_cases hmain : i = .main
  · subst hmain
    cases hpc : decodeMls s.mlPc with
    | ok j =>
      rw [exec_main_of_decodeMls_ok hpc, exec_main_of_decodeMls_ok (s := s.withEvents es) hpc]
      exact exec_row_withEvents es (by rintro rfl; cases decodeMls_format hpc) s
    | error e =>
      rw [exec_main_of_decodeMls_error hpc, exec_main_of_decodeMls_error (s := s.withEvents es) hpc, mapNext_fault]
  · exact exec_row_withEvents es hmain s

end

/-! ### A placed program (R91) -/

theorem argField_evtWord (ev : BitVec 3) (arg : Byte) : argField (evtWord ev arg) = arg :=
  BitVec.extractLsb'_append_eq_right

theorem decodeEvt_eventWord (hi : i.format = .evt) : decodeEvt (eventWord i) = .ok i := by
  cases i with
  | tick | echoRise | echoFall | txc | main | reset => rfl
  | rx b => simp only [eventWord, encode, decodeEvt, evField_evtWord, argField_evtWord]
  | _ => cases hi

theorem step_withEvents_cons (hi : i.format = .evt) (es : List Instr) (s : State) :
    step (s.withEvents (i :: es)) = mapNext (State.withEvents es) (exec i (lowerStrobe s)) := by
  rw [← exec_withEvents]
  obtain ⟨hplaced, -⟩ := stepRunsThePlacedEvent (s.withEvents (i :: es)) (eventWord i) _ rfl
  exact hplaced i (decodeEvt_eventWord hi)

/-- Settles O7, by induction on the program: a step runs the first operation and leaves the rest placed. -/
theorem placedProgramRunsInOrder : Obligations.PlacedProgramRunsInOrder := by
  intro es
  induction es with
  | nil => intro s _; rfl
  | cons i es ih =>
    intro s hevents
    obtain ⟨hi, hes⟩ := List.forall_mem_cons.mp hevents
    have hstep : core.step (s.withEvents (i :: es)) = _ := step_withEvents_cons hi es s
    simp only [List.length_cons, Host.Core.run, deliver, hstep]
    cases exec i (lowerStrobe s) with
    | next t => exact ih t hes
    | fault f => rfl
    | refused r => rfl

end Sys2Proof.Machine
end

section
/-! PROOFS. The family of spec/30_encoding.md: the words of the three tables (R83, R87, R90), the two directions of the round
trip (R80, R81), the bytes that are no command (R84), and the line feed that ends every message (R85). -/

namespace Sys2Proof

variable {b op : Byte} {pc : Nibble} {w : EvtWord} {x : OpWord} {i : Instr}

/-! ### Command bytes (R81, R83, R84) -/

theorem encode_decodeCmd (b : Byte) : encode (decodeCmd b) = .cmd b := by
  unfold decodeCmd
  split_ifs <;> subst_vars <;> rfl

/-- A byte that no row of R83 matches falls through to the last arm (R84). -/
theorem decodeCmd_of_not_isCommandByte (h : isCommandByte b = false) : decodeCmd b = .unknown b := by
  simp only [isCommandByte, List.contains_eq_mem, decide_eq_false_iff_not, List.mem_cons, List.not_mem_nil, or_false,
    not_or] at h
  simp only [decodeCmd, h, if_false]

theorem decodeCmd_ne_unknown (h : isCommandByte b = true) : decodeCmd b ≠ .unknown op := by
  simp only [isCommandByte, List.contains_eq_mem, decide_eq_true_eq, List.mem_cons, List.not_mem_nil, or_false] at h
  rcases h with rfl | rfl | rfl | rfl | rfl | rfl | rfl | rfl | rfl | rfl <;> exact nofun

theorem decodeCmd_eq_unknown_iff : decodeCmd b = .unknown op ↔ op = b ∧ isCommandByte b = false := by
  constructor
  · intro h
    have hword : OpWord.cmd op = .cmd b := by rw [← encode_decodeCmd b, h, encode]
    exact ⟨OpWord.cmd.inj hword, Bool.eq_false_iff.mpr fun hcmd => decodeCmd_ne_unknown hcmd h⟩
  · rintro ⟨rfl, h⟩
    exact decodeCmd_of_not_isCommandByte h

theorem decode_cmd_eq_unknown_iff : decode (.cmd b) = .ok (.unknown b) ↔ isCommandByte b = false := by
  simp only [decode, Except.ok.injEq, decodeCmd_eq_unknown_iff, true_and]

/-! ### Step numbers (R90) -/

theorem encode_of_decodeMls (h : decodeMls pc = .ok i) : encode i = .mls pc := by
  unfold decodeMls at h
  split at h <;> cases h <;> rfl

/-- The step numbers above 10 match no row of R90. -/
theorem decodeMls_of_eleven_le (h : 11 ≤ pc.toNat) : decodeMls pc = .error .reservedMainStep := by
  unfold decodeMls
  split
  case h_12 => rfl
  all_goals exact absurd h (by decide)

/-! ### Event words (R80, R87) -/

theorem argField_toNat (w : EvtWord) : (argField w).toNat = w.toNat % 256 := by
  rw [argField, BitVec.extractLsb'_toNat, Nat.shiftRight_zero]

theorem evField_eq_iff {ev : BitVec 3} : evField w = ev ↔ w.toNat / 256 = ev.toNat := by
  rw [← BitVec.toNat_inj, evField_toNat]

/-- A word is its two fields (R80). -/
theorem evtWord_ext {w' : EvtWord} (hev : evField w' = evField w) (harg : argField w' = argField w) : w' = w := by
  rw [← BitVec.toNat_inj, argField_toNat, argField_toNat] at harg
  rw [evField_eq_iff, evField_toNat] at hev
  exact BitVec.eq_of_toNat_eq (by omega)

/-- The level of an `ECHO` event is the parity of its payload. -/
theorem getLsbD_zero_eq_decide (b : Byte) : b.getLsbD 0 = decide (b.toNat % 2 = 1) := Nat.testBit_zero _

/-- What survives decoding an event word and encoding the operation again: `ev`, the byte of `RX`, the level of `ECHO`
(R80). -/
theorem eventWord_of_decodeEvt (h : decodeEvt w = .ok i) :
    evField (Machine.eventWord i) = evField w ∧
      (evField w = 2#3 → argField (Machine.eventWord i) = argField w) ∧
      (evField w = 1#3 → (argField (Machine.eventWord i)).getLsbD 0 = (argField w).getLsbD 0) := by
  unfold decodeEvt at h
  split at h
  case h_2 hev =>
    cases h
    rw [hev]
    refine ⟨?_, nofun, fun _ => ?_⟩ <;> cases (argField w).getLsbD 0 <;> rfl
  case h_3 hev =>
    cases h
    rw [hev]
    exact ⟨evField_evtWord _ _, fun _ => Machine.argField_evtWord _ _, nofun⟩
  case h_7 => cases h
  all_goals
    rename_i hev
    cases h
    rw [hev]
    exact ⟨rfl, nofun, nofun⟩

theorem encode_eq_eventWord (h : i.format = .evt) : encode i = .evt (Machine.eventWord i) := by
  cases i with
  | tick | echoRise | echoFall | rx b | txc | main | reset => rfl
  | _ => cases h

/-! ### The round trip (R80, R81) -/

theorem decode_encode (h : i.wellFormed = true) : decode (encode i) = .ok i := by
  cases hfmt : i.format with
  | evt =>
    rw [encode_eq_eventWord hfmt]
    exact Machine.decodeEvt_eventWord hfmt
  | cmd | mls =>
    cases i with
    | unknown op =>
      have hop : isCommandByte op = false := by simpa [Instr.wellFormed] using h
      exact decode_cmd_eq_unknown_iff.mpr hop
    | tick | echoRise | echoFall | rx b | txc | main | reset => cases hfmt
    | _ => rfl

/-- Settles O2: an event by its two fields, `UNKNOWN` by the byte it carries, every other row by the table. -/
theorem decodingAnEncodedOperationGivesItBack : Obligations.DecodingAnEncodedOperationGivesItBack :=
  fun _ h => decode_encode h

theorem decode_format (h : decode x = .ok i) : i.format = x.format := by
  cases x with
  | cmd b => cases h; exact decodeCmd_format b
  | evt w => exact decodeEvt_format h
  | mls pc => exact decodeMls_format h

/-- Only `UNKNOWN` can be ill-formed, and the decoder answers it for a byte that is no command only (R84). -/
theorem decode_wellFormed (h : decode x = .ok i) : i.wellFormed = true := by
  cases i with
  | unknown op =>
    cases x with
    | cmd b =>
      obtain ⟨rfl, hb⟩ := decodeCmd_eq_unknown_iff.mp (Except.ok.inj h)
      simp [Instr.wellFormed, hb]
    | evt w | mls pc => cases decode_format h
  | _ => rfl

/-- Settles O3: the encoder inverts the CMD and MLS decoders, and `eventWord_of_decodeEvt` says what an EVT word keeps. -/
theorem encodingADecodedWordGivesItBack : Obligations.EncodingADecodedWordGivesItBack := by
  intro x i h
  have hwf := decode_wellFormed h
  refine ⟨hwf, decode_format h, decode_encode hwf, ?cmd, ?mls, ?evt⟩
  case cmd =>
    rintro b rfl
    cases h
    exact encode_decodeCmd b
  case mls =>
    rintro pc rfl
    exact encode_of_decodeMls h
  case evt =>
    rintro w rfl
    obtain ⟨hev, hrx, hecho⟩ := eventWord_of_decodeEvt h
    refine ⟨Machine.eventWord i, encode_eq_eventWord (decode_format h), ?_, fun h2 => ?_, fun h1 => ?_⟩
    · rw [← evField_toNat, ← evField_toNat, hev]
    · exact evtWord_ext hev (hrx (evField_eq_iff.mpr h2))
    · have hlevel := hecho (evField_eq_iff.mpr h1)
      rw [getLsbD_zero_eq_decide, getLsbD_zero_eq_decide, decide_eq_decide, argField_toNat, argField_toNat] at hlevel
      omega

/-! ### The tables (R83, R87, R90) and the bytes outside them (R84) -/

/-- Settles O4: a byte decodes to `UNKNOWN` exactly if it is no command byte, and 246 bytes are none. -/
theorem exactlyTheOther246BytesAreUnknown : Obligations.ExactlyTheOther246BytesAreUnknown := by
  refine ⟨fun b => ?_, fun b => ⟨decodeCmd b, rfl, decodeCmd_format b, fun op h => ?_⟩, ?_⟩
  · simp only [decode_cmd_eq_unknown_iff, isCommandByte, List.contains_eq_mem, decide_eq_false_iff_not]
  · exact (decodeCmd_eq_unknown_iff.mp h).1
  · simp only [decode_cmd_eq_unknown_iff]
    decide +kernel

/-- Settles O1: the CMD and MLS words are closed, an EVT word decodes by its `ev` under every payload. -/
theorem tableWordsDecode : Obligations.TableWordsDecode := by
  refine ⟨⟨rfl, rfl, rfl, rfl, rfl, rfl, rfl, rfl, rfl, rfl⟩, fun arg => ?events,
    rfl, rfl, rfl, rfl, rfl, rfl, rfl, rfl, rfl, rfl, rfl, fun _ => decodeMls_of_eleven_le⟩
  case events =>
    have hev (ev : BitVec 3) : evField (ev ++ arg) = ev := evField_evtWord ev arg
    have harg (ev : BitVec 3) : argField (ev ++ arg) = arg := Machine.argField_evtWord ev arg
    have hreserved (ev : BitVec 3) (h6 : 6 ≤ ev.toNat) : decodeEvt (ev ++ arg) = .error .reservedEvent :=
      decodeEvt_of_six_le (by rwa [← evField_toNat, hev])
    refine ⟨?_, ?_, ?_, ?_, ?_, ?_, hreserved 6#3 (by decide), hreserved 7#3 (by decide)⟩
    all_goals simp only [decode, decodeEvt, hev, harg, getLsbD_zero_eq_decide, decide_eq_true_eq]

end Sys2Proof

namespace Sys2Proof.Machine

variable {s : State} {m : Nibble}

/-! ### The line feed (R63, R85) -/

/-- Message 9 keeps its layout under every table (R63), so its last byte is not one of the three digits. -/
theorem rowLen_report (hrom : s.cfg.romShape) : rowLen s.cfg mDist = 6 := by
  obtain ⟨-, -, hrow⟩ := hrom
  have hrow' : s.cfg.msgRom[mDist.toNat]? = some Config.reportRow := hrow
  rw [rowLen, hrow']
  rfl

theorem memRead_last (hrom : s.cfg.romOk) (hm : m.toNat < 10) : memRead s m (rowLen s.cfg m - 1) = .ok 0x0A#8 := by
  obtain ⟨hshape, hnewline⟩ := hrom
  have hindex : m.toNat < s.cfg.msgRom.length := by rw [hshape.1]; exact hm
  obtain ⟨row, hrow⟩ : ∃ row, s.cfg.msgRom[m.toNat]? = some row := ⟨_, List.getElem?_eq_getElem hindex⟩
  have hlen : rowLen s.cfg m = row.length := by rw [rowLen, hrow, Option.getD_some]
  have hlast : row[rowLen s.cfg m - 1]? = some 0x0A#8 := by
    rw [hlen, ← List.getLast?_eq_getElem?]
    exact hnewline row (List.mem_of_getElem? hrow)
  rw [memRead_of_row hm hrow hlast, if_neg]
  rintro ⟨h9, hdigit⟩
  obtain rfl : m = mDist := BitVec.eq_of_toNat_eq h9
  rw [rowLen_report hshape] at hdigit
  omega

/-- Settles O60: of the three things a `TXC` can do, only the end of a message leaves `Sending`, with `CURSOR` at the last
byte. -/
theorem everyMessageEndsInALineFeed : Obligations.EveryMessageEndsInALineFeed := by
  intro s hrom
  refine ⟨fun m hm => memRead_last hrom hm, fun t hsel hsending h hidle => ?_⟩
  rcases exec_txc_inv h with ⟨hs, -⟩ | ⟨-, hlen, rfl⟩ | ⟨-, -, b, -, rfl⟩
  · cases hsending.symm.trans hs
  · have hbounds := rowLen_bounds hrom.1 hsel
    have hcursor : rowLen s.cfg s.msgSel = s.cursor.toNat + 1 :=
      Except.ok.inj ((msgLen_ok_of hsel (by omega)).symm.trans hlen)
    have hread := memRead_last hrom hsel
    rw [hcursor] at hread
    exact ⟨rfl, rfl, hread⟩
  · cases hidle

end Sys2Proof.Machine
end

section
/-! PROOFS. The family of spec/41_tick_scheduler.md: what one tick writes (R100 to R105, R193), the independence of its
timing domains (R107), and the two counts over a run: the trigger's ticks (R106) and a pulse's ticks (R101, R121,
R122). -/

namespace Sys2Proof.Machine

variable {i : Instr} {s t : State}

/-! ### The frame of a tick (R100) -/

/-- The two states differ at most in the registers R100 lists and the ports of a `tx_write`. -/
def SameOutsideTick (s t : State) : Prop :=
  t = { s with
    pulse := t.pulse, trig := t.trig, cntMsg := t.cntMsg, cntTrig := t.cntTrig, cntLed := t.cntLed, led := t.led
    holdCnt := t.holdCnt, txState := t.txState, txOverrun := t.txOverrun, wire := t.wire, txData := t.txData
    txStrobe := t.txStrobe }

theorem SameOutsideTick.trans {u : State} (hsu : SameOutsideTick s u) (hut : SameOutsideTick u t) :
    SameOutsideTick s t := by
  unfold SameOutsideTick at hsu hut ⊢
  rw [hut, hsu]

theorem step1Pulse_frame (s : State) : SameOutsideTick s (step1Pulse s) := by
  unfold step1Pulse
  split <;> rfl

theorem step4Trigger_frame (s : State) : SameOutsideTick s (step4Trigger s) := by
  unfold step4Trigger
  split <;> rfl

theorem step5Led_frame (s : State) : SameOutsideTick s (step5Led s) := by
  unfold step5Led
  split <;> rfl

theorem holdTimer_frame (s : State) : SameOutsideTick s (holdTimer s) := by
  unfold holdTimer
  split <;> rfl

/-- Each action of `TICK` writes only registers R100 lists, with the ports of its `tx_write`. -/
theorem exec_tick_frame (h : exec .tick s = .next t) : SameOutsideTick s t := by
  obtain ⟨u, rfl, hu⟩ := exec_tick_inv h
  have hbefore : SameOutsideTick s (beforeResend s) := (step1Pulse_frame s).trans rfl
  have hresend : SameOutsideTick (beforeResend s) u := by
    rcases hu with ⟨-, rfl⟩ | ⟨-, b, -, rfl⟩ <;> rfl
  exact hbefore.trans (hresend.trans ((step4Trigger_frame u).trans ((step5Led_frame _).trans (holdTimer_frame _))))

/-! ### Period tests (R103 to R105) -/

theorem periodReached_of_le {count period : Nat} (h : period ≤ count) : periodReached count period = true :=
  decide_eq_true h

theorem periodReached_of_lt {count period : Nat} (h : count < period) : periodReached count period = false :=
  decide_eq_false (Nat.not_le.mpr h)

/-- A period counter before its period goes up by one (R103 to R105): the next value fits its register. -/
theorem toNat_count_of_lt {w : Nat} (c : BitVec w) {period : Nat} (hlt : c.toNat + 1 < period)
    (hfits : period ≤ 2 ^ w) :
    (if periodReached (c.toNat + 1) period then 0#w else c + 1#w).toNat = c.toNat + 1 := by
  have hmod : (c.toNat + 1) % 2 ^ w = c.toNat + 1 := Nat.mod_eq_of_lt (by omega)
  rw [periodReached_of_lt hlt, if_neg Bool.false_ne_true, BitVec.toNat_add, BitVec.toNat_ofNat, Nat.add_mod_mod, hmod]

/-- The overrun mark as R37 words it. -/
theorem overrunAfterWrite_eq_or_decide (s : State) :
    overrunAfterWrite s = (s.txOverrun || decide (s.txState = .sending)) := by
  rw [overrunAfterWrite, beq_eq_decide]

/-! ### The values a tick writes (R101, R102, R104, R105) -/

theorem exec_tick_pulse (h : exec .tick s = .next t) :
    t.pulse = if s.echoReady then s.pulse else s.pulse + 1#16 := by
  rcases exec_tick_inv h with ⟨u, rfl, ⟨-, rfl⟩ | ⟨-, b, -, rfl⟩⟩ <;> simp

/-- The level of action 2 is low, so only the period of action 4 leaves the trigger high. -/
theorem exec_tick_trig (h : exec .tick s = .next t) :
    t.trig = periodReached (s.cntTrig.toNat + 1) s.cfg.pTrig := by
  rcases exec_tick_inv h with ⟨u, rfl, ⟨-, rfl⟩ | ⟨-, b, -, rfl⟩⟩ <;> simp

theorem exec_tick_led (h : exec .tick s = .next t) :
    t.led = if periodReached (s.cntLed.toNat + 1) s.ledPeriod.toNat then
      if nearObstacle s then true else !s.led else s.led := by
  rcases exec_tick_inv h with ⟨u, rfl, ⟨-, rfl⟩ | ⟨-, b, -, rfl⟩⟩ <;> simp [nearObstacle]

/-! ### One tick -/

/-- Settles O11: action 3 is the only one that can stop, at the read of byte 0 when a resend is due. -/
theorem tickCompletesAndWritesNothingElse : Obligations.TickCompletesAndWritesNothingElse := by
  intro s hread
  have hcompletes : ∃ t, exec .tick s = .next t := by
    rcases exec_tick_cases s with ⟨-, h⟩ | ⟨-, b, -, h⟩ | ⟨hdue, f, hf, -⟩
    · exact ⟨_, h⟩
    · exact ⟨_, h⟩
    · rcases hread with hlt | ⟨b, hb⟩
      · cases hdue.symm.trans (periodReached_of_lt hlt)
      · cases hf.symm.trans hb
  obtain ⟨t, h⟩ := hcompletes
  exact ⟨t, h, exec_tick_frame h⟩

/-- Settles O12: action 1 and the hold timer, each in its two cases. -/
theorem tickCountsThePulseAndTheHold : Obligations.TickCountsThePulseAndTheHold := by
  intro s t h
  have hpulse := exec_tick_pulse h
  obtain ⟨-, -, -, hhold, -⟩ := exec_tick_counters h
  refine ⟨fun hr => ?_, fun hr => ?_, fun h0 => ?_, fun hpos => ?_⟩
  · rw [hpulse, if_pos hr]
  · rw [hpulse, hr, if_neg Bool.false_ne_true, BitVec.toNat_add]
    rfl
  · rw [hhold, if_pos (BitVec.eq_of_toNat_eq h0)]
  · have hne : s.holdCnt ≠ 0#16 := by intro h0; simp [h0] at hpos
    rw [hhold, if_neg hne]
    bv_omega

/-- Settles O13: the period test of action 4 decides the level and the counter. -/
theorem tickDrivesTheTrigger : Obligations.TickDrivesTheTrigger := by
  intro s t hperiod h
  obtain ⟨-, hcount, -⟩ := exec_tick_counters h
  rw [exec_tick_trig h, hcount]
  constructor
  · intro hle
    simp [periodReached_of_le hle]
  · intro hlt
    exact ⟨periodReached_of_lt hlt, toNat_count_of_lt _ hlt (by omega)⟩

/-- Settles O14: action 3 counts, or hands over the byte; the other actions leave the transmitter alone. -/
theorem tickResendsTheFirstByte : Obligations.TickResendsTheFirstByte := by
  intro s hperiod
  constructor
  · intro t hlt h
    have hcount : t.cntMsg.toNat = s.cntMsg.toNat + 1 := by
      rw [(exec_tick_counters h).1, toNat_count_of_lt _ hlt (by omega)]
    rcases exec_tick_inv h with ⟨u, rfl, ⟨-, rfl⟩ | ⟨hdue, -⟩⟩
    · exact ⟨hcount, by simp⟩
    · cases hdue.symm.trans (periodReached_of_lt hlt)
  · intro b hle hb
    rcases exec_tick_cases s with ⟨hnot, -⟩ | ⟨-, b', hb', h⟩ | ⟨-, f, hf, -⟩
    · cases hnot.symm.trans (periodReached_of_le hle)
    · cases hb'.symm.trans hb
      refine ⟨_, h, ?_⟩
      simp [overrunAfterWrite_eq_or_decide]
    · cases hf.symm.trans hb

/-- Settles O15: the period test of action 5 and, at the period, the distance threshold. -/
theorem tickBlinksTheLed : Obligations.TickBlinksTheLed := by
  intro s t h
  obtain ⟨-, -, hcount, -⟩ := exec_tick_counters h
  rw [exec_tick_led h, hcount]
  constructor
  · intro hle
    rw [periodReached_of_le hle, if_pos rfl, if_pos rfl, nearObstacle]
    exact ⟨rfl, fun hnear => by simp [hnear], fun hfar => by simp [hfar]⟩
  · intro hlt
    exact ⟨by simp [periodReached_of_lt hlt], toNat_count_of_lt _ hlt s.ledPeriod.isLt.le⟩

/-- Settles O17: each value is a function of the configuration and its own domain's registers. -/
theorem timingDomainsAreIndependent : Obligations.TimingDomainsAreIndependent := by
  intro s s' t t' hcfg h h'
  obtain ⟨hmsg, htrig, hled, -⟩ := exec_tick_counters h
  obtain ⟨hmsg', htrig', hled', -⟩ := exec_tick_counters h'
  refine ⟨fun hm => ?_, fun ht => ?_, fun hc hp hd hl => ?_⟩
  · rw [hmsg, hmsg', hm, hcfg]
  · rw [exec_tick_trig h, exec_tick_trig h', htrig, htrig', ht, hcfg]
    exact ⟨rfl, rfl⟩
  · rw [exec_tick_led h, exec_tick_led h', hled, hled', nearObstacle, nearObstacle, hc, hp, hd, hl, hcfg]
    exact ⟨rfl, rfl⟩

/-! ### Counting the ticks of a run (R104, R106) -/

/-- What a tick carries from `n` ticks to `n + 1`, and every other operation of the run keeps at `n`, holds after the run
at the number of its ticks. -/
theorem deliver_count_ticks {P : Nat → State → Prop} {es : List Instr} {n : Nat}
    (htick : ∀ n s t, P n s → exec .tick (lowerStrobe s) = .next t → P (n + 1) t)
    (hother : ∀ i ∈ es, i ≠ .tick → ∀ n s t, P n s → exec i (lowerStrobe s) = .next t → P n t)
    (hs : P n s) (h : deliver es s = .next t) : P (n + es.count .tick) t := by
  induction es generalizing n s with
  | nil =>
    cases h
    exact hs
  | cons i es ih =>
    obtain ⟨u, hi, hrest⟩ := deliver_cons_inv h
    obtain ⟨hfirst, hothers⟩ := List.forall_mem_cons.mp hother
    by_cases htk : i = .tick
    · subst htk
      rw [List.count_cons_self, Nat.add_comm _ 1, ← Nat.add_assoc]
      exact ih hothers (htick n s u hs hi) hrest
    · rw [List.count_cons_of_ne htk]
      exact ih hothers (hfirst htk n s u hs hi) hrest

/-- Only `TICK`, `RESET` and a rising edge write the trigger, its counter and the pulse count (R46). -/
theorem exec_keeps_trigger_and_pulse (htick : i ≠ .tick) (hreset : i ≠ .reset) (h : exec i s = .next t) :
    t.cntTrig = s.cntTrig ∧ t.trig = s.trig ∧ (i ≠ .echoRise → t.pulse = s.pulse) := by
  by_cases hmain : i = .main
  · obtain ⟨htrigCnt, -, -, htrig, hpulse⟩ := (contextsKeepToTheirOwnRegisters i s t h).2 (by rw [hmain]; rfl)
    exact ⟨htrigCnt, htrig, fun _ => hpulse⟩
  · obtain ⟨-, hcounters, hpulse, -⟩ := onlyOwnersWrite i s t hmain hreset h
    have hsame := mt hcounters htick
    simp only [not_or, not_not] at hsame
    obtain ⟨htrigCnt, -, -, htrig⟩ := hsame
    exact ⟨htrigCnt, htrig, fun hrise => not_not.mp (mt hpulse (not_or.mpr ⟨htick, hrise⟩))⟩

/-- The trigger domain after `n` ticks from reset, under the document's period (R106). -/
structure TriggerAfterTicks (n : Nat) (s : State) : Prop where
  period : s.cfg.pTrig = 4000
  count : s.cntTrig.toNat = n % 4000
  level : s.trig = true ↔ 0 < n ∧ n % 4000 = 0

theorem TriggerAfterTicks.tick {n : Nat} (hs : TriggerAfterTicks n s) (h : exec .tick (lowerStrobe s) = .next t) :
    TriggerAfterTicks (n + 1) t := by
  obtain ⟨hperiod, hcount, -⟩ := hs
  have hcfg : t.cfg = s.cfg := (exec_keeps_cfg_due_envCount h).1
  obtain ⟨hdue, hbefore⟩ := tickDrivesTheTrigger _ t (by simp [hperiod]) h
  simp only [lowerStrobe_cfg, lowerStrobe_cntTrig, hperiod, hcount] at hdue hbefore
  by_cases hlast : 4000 ≤ n % 4000 + 1
  · obtain ⟨htrig, hzero⟩ := hdue hlast
    have hmultiple : (n + 1) % 4000 = 0 := by omega
    exact ⟨hcfg ▸ hperiod, by rw [hzero, hmultiple]; rfl, by simp [htrig, hmultiple]⟩
  · obtain ⟨htrig, hnext⟩ := hbefore (by omega)
    have hcarry : (n + 1) % 4000 = n % 4000 + 1 := by omega
    exact ⟨hcfg ▸ hperiod, by rw [hnext, hcarry], by simp [htrig, hcarry]⟩

theorem TriggerAfterTicks.of_not_tick {n : Nat} (htick : i ≠ .tick) (hreset : i ≠ .reset) (hs : TriggerAfterTicks n s)
    (h : exec i (lowerStrobe s) = .next t) : TriggerAfterTicks n t := by
  obtain ⟨hcount, htrig, -⟩ := exec_keeps_trigger_and_pulse htick hreset h
  obtain ⟨hcfg, -⟩ := exec_keeps_cfg_due_envCount h
  exact ⟨hcfg ▸ hs.period, hcount ▸ hs.count, htrig ▸ hs.level⟩

/-- Settles O16: the trigger domain follows the number of ticks from reset on. -/
theorem triggerIsOneTickInEvery4000 : Obligations.TriggerIsOneTickInEvery4000 := by
  intro c es s hconst hreset h
  obtain ⟨-, hperiod, -⟩ := hconst
  have hstart : TriggerAfterTicks 0 (State.resetWith c []) := ⟨hperiod, rfl, by simp [State.resetWith, State.reset]⟩
  have hend : TriggerAfterTicks (0 + es.count .tick) s :=
    deliver_count_ticks (fun _ _ _ => TriggerAfterTicks.tick)
      (fun i hi htick _ _ _ => TriggerAfterTicks.of_not_tick htick (hreset i hi)) hstart h
  obtain ⟨-, hcount, hlevel⟩ := hend
  rw [Nat.zero_add] at hcount hlevel
  exact ⟨hcount, hlevel⟩

/-! ### Counting the ticks of an echo pulse (R101, R121, R122) -/

/-- A completed run of a joined sequence is a completed first part and a completed second part. -/
theorem deliver_append_inv {es fs : List Instr} (h : deliver (es ++ fs) s = .next t) :
    ∃ u, deliver es s = .next u ∧ deliver fs u = .next t := by
  induction es generalizing s with
  | nil => exact ⟨s, rfl, h⟩
  | cons i es ih =>
    obtain ⟨v, hi, hrest⟩ := deliver_cons_inv h
    obtain ⟨u, hes, hfs⟩ := ih hrest
    exact ⟨u, (deliver_cons_next hi).trans hes, hfs⟩

/-- What every operation of a run keeps holds after it. -/
theorem deliver_keeps {P : State → Prop} {es : List Instr}
    (hstep : ∀ i ∈ es, ∀ s t, P s → exec i (lowerStrobe s) = .next t → P t) (hs : P s) (h : deliver es s = .next t) :
    P t := by
  induction es generalizing s with
  | nil =>
    cases h
    exact hs
  | cons i es ih =>
    obtain ⟨u, hi, hrest⟩ := deliver_cons_inv h
    obtain ⟨hfirst, hothers⟩ := List.forall_mem_cons.mp hstep
    exact ih hothers (hfirst s u hs hi) hrest

/-- Only a falling edge completes a capture (R122): no other operation, `MAIN` and `RESET` included, raises the flag. -/
theorem exec_keeps_echoReady_low (hfall : i ≠ .echoFall) (h : exec i s = .next t) (hs : s.echoReady = false) :
    t.echoReady = false := by
  refine exec_induction (P := fun i s t => i ≠ .echoFall → s.echoReady = false → t.echoReady = false) ?_ ?_ h hfall hs
  · intro i s t hmain h hfall hs
    by_cases hreset : i = .reset
    · subst hreset
      cases h
      rfl
    · obtain ⟨-, -, -, hready, -⟩ := onlyOwnersWrite i s t hmain hreset h
      by_contra hne
      rcases hready (fun heq => hne (heq.trans hs)) with ⟨hf, -⟩ | ⟨-, hlow⟩
      · exact hfall hf
      · exact hne hlow
  · intro j s t hj hstep _
    exact hstep (by rintro rfl; cases hj)

/-- No handler lowers the flag (R46): only `POLL_ECHO` does. -/
theorem handler_keeps_echoReady_high (hctx : i.context = .interrupt) (h : exec i s = .next t)
    (hs : s.echoReady = true) : t.echoReady = true := by
  have hother : i ≠ .main ∧ i ≠ .reset ∧ i ≠ .pollEcho := by refine ⟨?_, ?_, ?_⟩ <;> rintro rfl <;> cases hctx
  obtain ⟨hmain, hreset, hpoll⟩ := hother
  obtain ⟨-, -, -, hready, -⟩ := onlyOwnersWrite i s t hmain hreset h
  by_contra hne
  rcases hready (fun heq => hne (heq.trans hs)) with ⟨-, hhigh⟩ | ⟨hp, -⟩
  · exact hne hhigh
  · exact hpoll hp

/-- A pulse in flight, `n` ticks after its rising edge. -/
structure PulseInFlight (n : Nat) (s : State) : Prop where
  ready : s.echoReady = false
  count : s.pulse.toNat = n % 65536

theorem PulseInFlight.tick {n : Nat} (hs : PulseInFlight n s) (h : exec .tick (lowerStrobe s) = .next t) :
    PulseInFlight (n + 1) t := by
  have hready : t.echoReady = false := exec_keeps_echoReady_low (by decide) h hs.ready
  obtain ⟨-, hcount, -⟩ := tickCountsThePulseAndTheHold _ t h
  refine ⟨hready, ?_⟩
  rw [hcount hs.ready, lowerStrobe_pulse, hs.count, Nat.mod_add_mod]

theorem PulseInFlight.of_not_tick {n : Nat} (htick : i ≠ .tick) (hrise : i ≠ .echoRise) (hfall : i ≠ .echoFall)
    (hreset : i ≠ .reset) (hs : PulseInFlight n s) (h : exec i (lowerStrobe s) = .next t) : PulseInFlight n t := by
  obtain ⟨-, -, hpulse⟩ := exec_keeps_trigger_and_pulse htick hreset h
  have hsame : t.pulse = s.pulse := hpulse hrise
  exact ⟨exec_keeps_echoReady_low hfall h hs.ready, hsame ▸ hs.count⟩

/-- A completed capture of `n` ticks, frozen under the flag. -/
structure PulseFrozen (n : Nat) (s : State) : Prop where
  ready : s.echoReady = true
  count : s.pulse.toNat = n % 65536

theorem PulseFrozen.handler {n : Nat} (hctx : i.context = .interrupt) (hrise : i ≠ .echoRise) (hs : PulseFrozen n s)
    (h : exec i (lowerStrobe s) = .next t) : PulseFrozen n t := by
  have hready : t.echoReady = true := handler_keeps_echoReady_high hctx h hs.ready
  have hpulse : t.pulse = s.pulse := by
    by_cases htick : i = .tick
    · subst htick
      obtain ⟨hfrozen, -⟩ := tickCountsThePulseAndTheHold _ t h
      exact hfrozen hs.ready
    · obtain ⟨-, -, hpulse⟩ := exec_keeps_trigger_and_pulse htick (by rintro rfl; cases hctx) h
      exact hpulse hrise
  exact ⟨hready, hpulse ▸ hs.count⟩

/-- Settles O19: the rising edge starts the count at 0, the events up to the falling edge count its ticks, the falling
edge freezes it, and the handlers after it keep it. -/
theorem echoPulseIsMeasuredInTicks : Obligations.EchoPulseIsMeasuredInTicks := by
  intro during after s t hduring hafter hready h
  obtain ⟨s₁, hrise, h⟩ := deliver_cons_inv h
  obtain ⟨s₂, hmid, h⟩ := deliver_append_inv h
  obtain ⟨s₃, hfall, hend⟩ := deliver_cons_inv h
  have hstart : PulseInFlight 0 s₁ := by
    cases hrise
    exact ⟨hready, rfl⟩
  have hcounted : PulseInFlight (0 + during.count .tick) s₂ := by
    refine deliver_count_ticks (fun _ _ _ => PulseInFlight.tick) (fun i hi htick _ _ _ => ?_) hstart hmid
    obtain ⟨-, hnorise, hnofall, hnoreset⟩ := hduring i hi
    exact PulseInFlight.of_not_tick htick hnorise hnofall hnoreset
  rw [Nat.zero_add] at hcounted
  have hfrozen : PulseFrozen (during.count .tick) s₃ := by
    cases hfall
    exact ⟨rfl, hcounted.count⟩
  have hkept : PulseFrozen (during.count .tick) t := by
    refine deliver_keeps (fun i hi _ _ => ?_) hfrozen hend
    obtain ⟨hctx, hnorise⟩ := hafter i hi
    exact PulseFrozen.handler hctx hnorise
  exact ⟨hkept.count, hkept.ready⟩

end Sys2Proof.Machine
end

section
/-! PROOFS. The family of spec/42_echo_capture.md: what the two edges write (R121, R122), and runs without a falling edge
(R123, R281): with the flag low the main loop passes the estimator by, and no other step writes what it estimates. -/

namespace Sys2Proof.Machine

variable {i : Instr} {s t : State}

/-! ### The two edges (R121, R122) -/

/-- Settles O18: each edge is its one assignment. -/
theorem echoEdges : Obligations.EchoEdges := fun _ => ⟨rfl, rfl⟩

/-! ### The steps of the estimator (R131 to R134) -/

/-- The steps `POLL_ECHO` sends the main loop through after a completed capture. -/
def isEstimatorStep : Instr → Bool
  | .estLoad | .estDist | .estLed | .estFmt => true
  | _ => false

/-- `ML_PC` is at a step of the estimator. -/
abbrev InEstimator (pc : Nibble) : Prop := 1 ≤ pc.toNat ∧ pc.toNat ≤ 4

theorem isEstimatorStep_of_decodeMls {pc : Nibble} (h : decodeMls pc = .ok i) :
    isEstimatorStep i = decide (InEstimator pc) := by
  unfold decodeMls at h
  split at h <;> cases h <;> rfl

/-- What the estimator computes from a capture is the same in both states: the distance, the LED period, the report. -/
structure SameEstimate (s t : State) : Prop where
  distance : t.distance = s.distance
  ledPeriod : t.ledPeriod = s.ledPeriod
  mem : t.mem = s.mem

theorem SameEstimate.trans {u : State} (hst : SameEstimate s t) (htu : SameEstimate t u) : SameEstimate s u :=
  ⟨htu.distance.trans hst.distance, htu.ledPeriod.trans hst.ledPeriod, htu.mem.trans hst.mem⟩

/-- Only the estimator's steps own the estimate (R46). -/
theorem sameEstimate_of_not_isEstimatorStep (hmain : i ≠ .main) (hreset : i ≠ .reset) (hest : isEstimatorStep i = false)
    (h : exec i s = .next t) : SameEstimate s t := by
  obtain ⟨-, -, -, -, -, -, -, -, -, hdist, hled, hmem, -⟩ := onlyOwnersWrite i s t hmain hreset h
  have hother : i ≠ .estDist ∧ i ≠ .estLed ∧ i ≠ .estFmt := by refine ⟨?_, ?_, ?_⟩ <;> rintro rfl <;> cases hest
  obtain ⟨hnodist, hnoled, hnofmt⟩ := hother
  exact ⟨not_not.mp (mt hdist hnodist), not_not.mp (mt hled hnoled), not_not.mp (mt hmem hnofmt)⟩

/-! ### Without a completed capture the main loop stays outside the estimator (R130, R211) -/

/-- The only way into the estimator is `POLL_ECHO` with the flag set. -/
theorem mainLoopStep_stays_outside_estimator (hi : i.format = .mls) (hest : isEstimatorStep i = false)
    (hready : s.echoReady = false) (hpc : ¬ InEstimator s.mlPc) (h : exec i s = .next t) : ¬ InEstimator t.mlPc := by
  cases i with
  | estLoad | estDist | estLed | estFmt => cases hest
  | pollEcho =>
    rcases exec_pollEcho_inv h with ⟨hset, -⟩ | ⟨-, rfl⟩
    · cases hready.symm.trans hset
    · rw [goTo_mlPc]; decide
  | pollObst => rcases exec_pollObst_inv h with ⟨-, rfl⟩ | ⟨-, rfl⟩ <;> rw [goTo_mlPc] <;> decide
  | pollCmd =>
    rcases exec_pollCmd_inv h with ⟨-, rfl⟩ | ⟨-, rfl⟩
    · show ¬ InEstimator pcExec; decide
    · rw [goTo_mlPc]; decide
  | exec =>
    rw [exec_exec_eq_decoded] at h
    obtain ⟨-, -, hnext, -⟩ := exec_command_inv (decodeCmd_format s.tCmd) h
    have houtside : ∀ pc ∈ [pcSel, pcTurnHold, pcPollEcho], ¬ InEstimator pc := by decide
    exact houtside _ hnext
  | turnHold =>
    rcases exec_turnHold_inv h with ⟨-, rfl⟩ | ⟨-, rfl⟩
    · rw [goTo_mlPc]; decide
    · exact hpc
  | turnEnd => cases h; show ¬ InEstimator pcSel; decide
  | sel =>
    obtain ⟨b, -, rfl⟩ := exec_sel_inv h
    show ¬ InEstimator pcPollEcho; decide
  | _ => cases hi

/-! ### Runs without a falling edge (R123, R281) -/

/-- No capture has completed between the two states: the flag is low, the main loop outside the estimator, and the
estimate the one there was. -/
structure NoCaptureSince (s₀ s : State) : Prop where
  ready : s.echoReady = false
  outside : ¬ InEstimator s.mlPc
  same : SameEstimate s₀ s

theorem NoCaptureSince.main {s₀ : State} (hs : NoCaptureSince s₀ s) (h : exec .main s = .next t) :
    NoCaptureSince s₀ t := by
  obtain ⟨j, hj, hrow⟩ := exec_main_inv h
  have hfmt : j.format = .mls := decodeMls_format hj
  have hest : isEstimatorStep j = false := (isEstimatorStep_of_decodeMls hj).trans (decide_eq_false hs.outside)
  have hsame : SameEstimate s t :=
    sameEstimate_of_not_isEstimatorStep (by rintro rfl; cases hfmt) (by rintro rfl; cases hfmt) hest hrow
  exact ⟨exec_keeps_echoReady_low (by decide) h hs.ready,
    mainLoopStep_stays_outside_estimator hfmt hest hs.ready hs.outside hrow, hs.same.trans hsame⟩

theorem NoCaptureSince.handler {s₀ : State} (hctx : i.context = .interrupt) (hfall : i ≠ .echoFall)
    (hs : NoCaptureSince s₀ s) (h : exec i s = .next t) : NoCaptureSince s₀ t := by
  obtain ⟨hdist, hled, hmem, -, -, -, -, -, -, -, hpc⟩ := handler_keeps_main_registers hctx h
  exact ⟨exec_keeps_echoReady_low hfall h hs.ready, hpc ▸ hs.outside, hs.same.trans ⟨hdist, hled, hmem⟩⟩

/-- Any event but a falling edge and `RESET`: it is a handler's or `MAIN`. -/
theorem NoCaptureSince.event {s₀ : State} (hfmt : i.format = .evt) (hfall : i ≠ .echoFall) (hreset : i ≠ .reset)
    (hs : NoCaptureSince s₀ s) (h : exec i (lowerStrobe s) = .next t) : NoCaptureSince s₀ t := by
  have hstart : NoCaptureSince s₀ (lowerStrobe s) :=
    ⟨hs.ready, hs.outside, hs.same.trans ⟨rfl, rfl, rfl⟩⟩
  cases i with
  | tick | echoRise | rx b | txc => exact hstart.handler rfl hfall h
  | main => exact hstart.main h
  | echoFall | reset => contradiction
  | _ => cases hfmt

/-- Settles O20: no event of the run completes a capture, so the estimate stays the one at its start. -/
theorem noFallingEdgeNoNewDistance : Obligations.NoFallingEdgeNoNewDistance := by
  intro es s t hes hready hpc h
  have hstart : NoCaptureSince s s := ⟨hready, hpc, rfl, rfl, rfl⟩
  have hend : NoCaptureSince s t :=
    deliver_keeps (P := NoCaptureSince s)
      (fun i hi _ _ hs hstep => by
        obtain ⟨hfmt, hnofall, hnoreset⟩ := hes i hi
        exact hs.event hfmt hnofall hnoreset hstep)
      hstart h
  exact ⟨hend.ready, hend.same.distance, hend.same.ledPeriod, hend.same.mem⟩

end Sys2Proof.Machine
end

section
/-! PROOFS. The family of spec/43_distance_estimator.md: what each step of the estimator writes (R130 to R136), and its five
steps as one function of the captured duration (R137). -/

namespace Sys2Proof.Machine

variable {s t : State} {c : Config}

/-! ### `POLL_ECHO` and `EST_LOAD` (R130, R131) -/

theorem exec_pollEcho_of_ready (h : s.echoReady = true) :
    exec .pollEcho s = .next { s with echoReady := false, mlPc := pcEstLoad } := if_pos h

theorem exec_pollEcho_of_not_ready (h : s.echoReady = false) : exec .pollEcho s = .next (goTo pcPollObst s) :=
  if_neg (by simp [h])

/-- Settles O21: the flag set and the flag clear. -/
theorem pollEchoTestsAndClears : Obligations.PollEchoTestsAndClears := by
  intro s
  split
  · next h => exact exec_pollEcho_of_ready h
  · next h => exact exec_pollEcho_of_not_ready (Bool.eq_false_iff.mpr h)

/-- Settles O22: the step is its two assignments. -/
theorem estLoadReadsThePulse : Obligations.EstLoadReadsThePulse := fun _ => rfl

/-! ### The distance (R132) -/

/-- What `EST_DIST` writes to `DISTANCE` for a duration. -/
def distanceWord (c : Config) (d : Half) : Half := BitVec.ofNat 16 (distanceOf c d.toNat)

theorem exec_estDist (s : State) :
    exec .estDist s = .next { s with distance := distanceWord s.cfg s.tD, mlPc := pcEstLed } := rfl

/-- No distance is lost in the 16-bit register. -/
theorem distanceWord_toNat (hc : c.documentConstants) (d : Half) :
    (distanceWord c d).toNat = 17150 * d.toNat / 20000 := by
  have hfits : 17150 * d.toNat / 20000 < 2 ^ 16 := by have hd := d.isLt; omega
  rw [distanceWord, distanceOf_document hc, BitVec.toNat_ofNat, Nat.mod_eq_of_lt hfits]

/-- Settles O23: 343 * 50 is the factor 17150, and no 16-bit duration reaches the register's width. -/
theorem estDistIsTheTruncatedFormula : Obligations.EstDistIsTheTruncatedFormula := by
  intro s hc
  have hduration := s.tD.isLt
  have hproduct : 343 * s.tD.toNat * 50 = 17150 * s.tD.toNat := by omega
  refine ⟨_, exec_estDist s, rfl, ?_, by omega, distanceOf_le hc s.tD⟩
  rw [hproduct]
  exact distanceWord_toNat hc s.tD

/-- The distance does not decrease with the duration (R137). -/
theorem distanceOf_mono (hc : c.documentConstants) {d d' : Nat} (h : d ≤ d') : distanceOf c d ≤ distanceOf c d' := by
  rw [distanceOf_document hc, distanceOf_document hc]
  exact Nat.div_le_div_right (Nat.mul_le_mul_left _ h)

/-- The obstacle threshold in ticks (R137). -/
theorem distanceOf_le_25_iff (hc : c.documentConstants) (d : Nat) : distanceOf c d ≤ 25 ↔ d ≤ 30 := by
  rw [distanceOf_document hc]
  omega

/-! ### The LED period (R133, R136) -/

/-- What `EST_LED` writes to `LED_PERIOD` for a distance. -/
def ledPeriodWord (c : Config) (dist : Half) : Word := BitVec.ofNat 32 (ledPeriodOf c dist.toNat)

theorem exec_estLed (s : State) :
    exec .estLed s = .next { s with ledPeriod := ledPeriodWord s.cfg s.distance, mlPc := pcEstFmt } := rfl

/-- Under either policy the subtraction gives a 16-bit difference, so the period fits its register. -/
theorem ledPeriodOf_lt (hc : c.documentConstants) (dist : Half) : ledPeriodOf c dist.toNat < 2 ^ 32 := by
  have hdist := dist.isLt
  have hdirect : (dist.toNat - 15) * 200 / 3 < 2 ^ 32 := by omega
  cases hp : c.ledLowPolicy with
  | clamp => rwa [ledPeriodOf_clamp hc hp]
  | wrap16 =>
    rw [ledPeriodOf_wrap16 hc hp]
    split
    · omega
    · exact hdirect

theorem ledPeriodWord_toNat (hc : c.documentConstants) (dist : Half) :
    (ledPeriodWord c dist).toNat = ledPeriodOf c dist.toNat := by
  rw [ledPeriodWord, BitVec.toNat_ofNat, Nat.mod_eq_of_lt (ledPeriodOf_lt hc dist)]

theorem ledPeriodWord_clamp (hc : c.documentConstants) (hp : c.ledLowPolicy = .clamp) (dist : Half) :
    (ledPeriodWord c dist).toNat = (dist.toNat - 15) * 200 / 3 :=
  (ledPeriodWord_toNat hc dist).trans (ledPeriodOf_clamp hc hp _)

/-- Settles O24: the subtraction of the formula saturates at 0 by itself. -/
theorem estLedClampsBelow15 : Obligations.EstLedClampsBelow15 := by
  intro s hc hp
  have hperiod := ledPeriodWord_clamp hc hp s.distance
  refine ⟨_, exec_estLed s, rfl, fun _ => hperiod, fun hlow => ?low, fun hdist => ?bound⟩
  case low =>
    rw [hperiod, Nat.sub_eq_zero_of_le hlow.le]
  case bound =>
    rw [hperiod]
    omega

/-- Settles O25: below 15 the wrapped difference lies between 65521 and 65535. -/
theorem estLedWrapsUnderWrap16 : Obligations.EstLedWrapsUnderWrap16 := by
  intro s hc hp
  have hperiod := (ledPeriodWord_toNat hc s.distance).trans (ledPeriodOf_wrap16 hc hp _)
  refine ⟨_, exec_estLed s, rfl, fun hhigh => ?high, fun hlow => ?low⟩
  case high =>
    rw [hperiod, if_neg (Nat.not_lt.mpr hhigh)]
  case low =>
    rw [if_pos hlow] at hperiod
    have hdifference : (s.distance.toNat + 65536 - 15) % 65536 = s.distance.toNat + 65521 := by omega
    refine ⟨hperiod, ?_, ?_⟩ <;> rw [hperiod, hdifference] <;> omega

/-! ### The report (R134) -/

/-- The message space with the three digits of a distance written. -/
def reportMem (c : Config) (mem : List Host.Cell) (dist : Half) : List Host.Cell :=
  writeDigits c mem (digitChar dist.toNat 100) (digitChar dist.toNat 10) (digitChar dist.toNat 1)

theorem exec_estFmt (s : State) :
    exec .estFmt s = .next { s with mem := reportMem s.cfg s.mem s.distance, mlPc := pcPollObst } := rfl

theorem digitChar_toNat (dist w : Nat) : (digitChar dist w).toNat = 0x30 + dist / w % 10 := by
  have hdigit : dist / w % 10 < 10 := Nat.mod_lt _ (by decide)
  rw [digitChar, BitVec.toNat_ofNat, Nat.mod_eq_of_lt (by omega)]

/-- The message space holds the report of a distance: its three digits, and every other byte as before. -/
structure Reports (s t : State) (dist : Nat) : Prop where
  hundreds : (digit t 0).toNat = 0x30 + dist / 100 % 10
  tens : (digit t 1).toNat = 0x30 + dist / 10 % 10
  units : (digit t 2).toNat = 0x30 + dist % 10
  reads : ∀ m i, ¬ (m.toNat = 9 ∧ i < 3) → memRead t m i = memRead s m i
  others : ∀ a, ¬ (a = msgAddr 9 0 ∨ a = msgAddr 9 1 ∨ a = msgAddr 9 2) →
    Memory.read t.cfg t.mem a = Memory.read s.cfg s.mem a

theorem reports_of_mem_eq {dist : Half} (hcfg : t.cfg = s.cfg) (hmem : t.mem = reportMem s.cfg s.mem dist) :
    Reports s t dist.toNat := by
  refine ⟨?_, ?_, ?_, memRead_outside_digits hcfg, fun a ha => ?_⟩
  · rw [digit, hcfg, hmem, reportMem, writeDigits_read_zero]; exact digitChar_toNat _ _
  · rw [digit, hcfg, hmem, reportMem, writeDigits_read_one]; exact digitChar_toNat _ _
  · rw [digit, hcfg, hmem, reportMem, writeDigits_read_two]
    simpa using digitChar_toNat dist.toNat 1
  · rw [hcfg, hmem]
    exact writeDigits_read_other _ _ _ _ _ (Bool.eq_false_iff.mpr (mt isDigitAddr_iff.mp ha))

theorem reports_of_exec_estFmt (h : exec .estFmt s = .next t) : Reports s t s.distance.toNat := by
  cases h
  exact reports_of_mem_eq rfl rfl

/-- Settles O26: the step writes the report of `DISTANCE`. -/
theorem estFmtWritesTheThreeDigits : Obligations.EstFmtWritesTheThreeDigits := by
  intro s
  have hreport := reports_of_exec_estFmt (exec_estFmt s)
  exact ⟨_, exec_estFmt s, rfl, hreport.hundreds, hreport.tens, hreport.units, hreport.reads, hreport.others⟩

/-! ### The five steps as one function of the duration (R137) -/

/-- What the five steps make of a waiting capture. -/
def estimated (s : State) : State :=
  { s with
    distance := distanceWord s.cfg s.pulse
    ledPeriod := ledPeriodWord s.cfg (distanceWord s.cfg s.pulse)
    mem := reportMem s.cfg s.mem (distanceWord s.cfg s.pulse)
    echoReady := false
    tD := s.pulse
    mlPc := pcPollObst
    txStrobe := false }

/-- The first of several `MAIN` events is the step `ML_PC` names. -/
theorem deliver_mains_succ {i : Instr} {n : Nat} (hi : decodeMls s.mlPc = .ok i)
    (h : exec i (lowerStrobe s) = .next t) : deliver (mains (n + 1)) s = deliver (mains n) t :=
  deliver_cons_next ((exec_main_of_decodeMls_ok (s := lowerStrobe s) hi).trans h)

/-- From `POLL_ECHO` with a waiting capture the run passes every step of the estimator once. The strobe's lowering is unfolded
before the end states are compared, so that the four nested updates are compared field by field. -/
theorem deliver_mains_five (hpc : s.mlPc = pcPollEcho) (hready : s.echoReady = true) :
    deliver (mains 5) s = .next (estimated s) := by
  have hpoll : decodeMls s.mlPc = .ok .pollEcho := by rw [hpc]; rfl
  refine (deliver_mains_succ hpoll (exec_pollEcho_of_ready hready)).trans ?_
  refine (deliver_mains_succ rfl (estLoadReadsThePulse _)).trans ?_
  refine (deliver_mains_succ rfl (exec_estDist _)).trans ?_
  refine (deliver_mains_succ rfl (exec_estLed _)).trans ?_
  refine (deliver_mains_succ rfl (exec_estFmt _)).trans ?_
  simp only [lowerStrobe, estimated]
  exact deliver_nil _

/-- Settles O27: the run ends in `estimated s`, whose parts are the words the three steps write. -/
theorem estimatorIsAFunctionOfThePulse : Obligations.EstimatorIsAFunctionOfThePulse := by
  refine ⟨fun s hc hp hpc hready => ?run, fun c hc d d' => ⟨distanceOf_mono hc, distanceOf_le_25_iff hc d⟩⟩
  case run =>
    have hreport : Reports s (estimated s) (estimated s).distance.toNat := reports_of_mem_eq rfl rfl
    exact ⟨estimated s, deliver_mains_five hpc hready, rfl, distanceWord_toNat hc _, ledPeriodWord_clamp hc hp _,
      hreport.hundreds, hreport.tens, hreport.units, hreport.others⟩

end Sys2Proof.Machine
end

section
/-! PROOFS. The family of spec/44_command_mailbox.md: what a received byte and a take write (R150 to R152), and what every
other operation leaves in the mailbox (R153). -/

namespace Sys2Proof.Machine

variable {i : Instr} {s t : State}

/-! ### Submitting and taking (R150 to R152) -/

theorem exec_rx (b : Byte) (s : State) : exec (.rx b) s = .next (submit b s) := rfl

/-- Settles O29: `RX` submits the byte, whatever it is. -/
theorem receivedByteIsKeptOnlyWhileEmpty : Obligations.ReceivedByteIsKeptOnlyWhileEmpty := exec_rx

theorem exec_pollCmd_of_full (h : s.cmdPresent = true) :
    exec .pollCmd s = .next { s with tCmd := s.cmdCode, lastCmd := s.cmdCode, cmdPresent := false, mlPc := pcExec } :=
  if_pos h

theorem exec_pollCmd_of_empty (h : s.cmdPresent = false) : exec .pollCmd s = .next (goTo pcPollEcho s) :=
  if_neg (by simp [h])

/-- Settles O31: the full and the empty mailbox. -/
theorem pollCmdTakes : Obligations.PollCmdTakes := by
  intro s
  split
  · next hp => exact exec_pollCmd_of_full hp
  · next hp => exact exec_pollCmd_of_empty (by simpa using hp)

/-! ### A code is replaced only in an empty mailbox, and leaves it only by a take (R153) -/

theorem submitted_of_cmdCode_ne (hmain : i ≠ .main) (hreset : i ≠ .reset) (h : exec i s = .next t)
    (hne : t.cmdCode ≠ s.cmdCode) : s.cmdPresent = false ∧ t.cmdPresent = true := by
  obtain ⟨-, -, -, -, hcode, -⟩ := onlyOwnersWrite i s t hmain hreset h
  obtain ⟨hempty, ⟨b, rfl⟩ | rfl⟩ := hcode hne
  · cases h
    exact ⟨hempty, submit_cmdPresent b s⟩
  · rcases exec_pollObst_inv h with ⟨-, rfl⟩ | ⟨-, rfl⟩
    · exact ⟨hempty, submit_cmdPresent opObst s⟩
    · exact absurd rfl hne

theorem taken_of_cmdPresent_cleared (hmain : i ≠ .main) (hreset : i ≠ .reset) (h : exec i s = .next t)
    (hfull : s.cmdPresent = true) (hempty : t.cmdPresent = false) :
    i = .pollCmd ∧ t.tCmd = s.cmdCode ∧ t.lastCmd = s.cmdCode := by
  obtain ⟨-, -, -, -, -, hpresent, -⟩ := onlyOwnersWrite i s t hmain hreset h
  rcases hpresent (by simp [hfull, hempty]) with ⟨hs, -⟩ | ⟨-, rfl⟩
  · cases hs.symm.trans hfull
  · rcases exec_pollCmd_inv h with ⟨-, rfl⟩ | ⟨hs, -⟩
    · exact ⟨rfl, rfl, rfl⟩
    · cases hs.symm.trans hfull

/-- What R153 lets an operation do to the mailbox: fill an empty one, and empty a full one by taking its code. -/
structure ObeysMailbox (i : Instr) (s t : State) : Prop where
  change : t.cmdCode ≠ s.cmdCode → s.cmdPresent = false ∧ t.cmdPresent = true
  take : s.cmdPresent = true → t.cmdPresent = false →
    (i = .pollCmd ∨ i = .main) ∧ t.tCmd = s.cmdCode ∧ t.lastCmd = s.cmdCode

/-- Each row by its writers, and `MAIN` by the step it runs. -/
theorem exec_obeysMailbox (hreset : i ≠ .reset) (h : exec i s = .next t) : ObeysMailbox i s t := by
  refine exec_induction (P := fun i s t => i ≠ .reset → ObeysMailbox i s t) ?row ?main h hreset
  case row =>
    intro i s t hmain h hreset
    exact ⟨submitted_of_cmdCode_ne hmain hreset h, fun hfull hempty =>
      (taken_of_cmdPresent_cleared hmain hreset h hfull hempty).imp_left .inl⟩
  case main =>
    intro j s t hj hstep _
    obtain ⟨hchange, htake⟩ := hstep (by rintro rfl; cases hj)
    exact ⟨hchange, fun hfull hempty => ⟨.inr rfl, (htake hfull hempty).2⟩⟩

/-- Settles O32: its two clauses are what every operation but `RESET` obeys. -/
theorem mailboxCodeChangesOnlyWhileEmpty : Obligations.MailboxCodeChangesOnlyWhileEmpty := by
  intro i s t hreset h
  obtain ⟨hchange, htake⟩ := exec_obeysMailbox hreset h
  exact ⟨hchange, htake⟩

/-! ### Two bytes with no take between (R151) -/

/-- The mailbox is full and holds the code. -/
structure MailboxHolds (c : Byte) (s : State) : Prop where
  present : s.cmdPresent = true
  code : s.cmdCode = c

theorem mailboxHolds_submit (b : Byte) (s : State) :
    MailboxHolds (if s.cmdPresent then s.cmdCode else b) (submit b s) :=
  ⟨submit_cmdPresent b s, submit_cmdCode b s⟩

/-- No handler takes, and none writes a full mailbox: further bytes are lost (R46, R151). -/
theorem MailboxHolds.handler {c : Byte} (hctx : i.context = .interrupt) (hs : MailboxHolds c s)
    (h : exec i s = .next t) : MailboxHolds c t := by
  have hother : i ≠ .main ∧ i ≠ .reset ∧ i ≠ .pollCmd := by refine ⟨?_, ?_, ?_⟩ <;> rintro rfl <;> cases hctx
  obtain ⟨hmain, hreset, hpoll⟩ := hother
  constructor
  · by_contra hempty
    exact hpoll (taken_of_cmdPresent_cleared hmain hreset h hs.present (by simpa using hempty)).1
  · by_contra hne
    have hsubmitted := submitted_of_cmdCode_ne hmain hreset h (fun heq => hne (heq.trans hs.code))
    cases hsubmitted.1.symm.trans hs.present

/-- Settles O30: the first byte leaves the mailbox full, and the second is one more interrupt that cannot change it. -/
theorem secondSubmitIsLost : Obligations.SecondSubmitIsLost := by
  intro b c es s u t hes hfirst h
  have hctx : ∀ i ∈ es ++ [.rx c], i.context = .interrupt :=
    List.forall_mem_append.mpr ⟨hes, List.forall_mem_singleton.mpr rfl⟩
  have hstart : MailboxHolds (if s.cmdPresent then s.cmdCode else b) u := by
    cases hfirst
    exact mailboxHolds_submit b s
  have hend : MailboxHolds (if s.cmdPresent then s.cmdCode else b) t := by
    refine deliver_keeps (fun i hi v _ hv hstep => ?_) hstart h
    have hlow : MailboxHolds _ (lowerStrobe v) := ⟨hv.present, hv.code⟩
    exact hlow.handler (hctx i hi) hstep
  exact ⟨hend.present, hend.code⟩

end Sys2Proof.Machine
end

section
/-! PROOFS. The family of spec/45_status_transmitter.md: what a completion and a selection write (R161 to R165), the run of
completions that sends a message (R164), and the operations offered while they are not enabled (R162, R194, R212). -/

namespace Sys2Proof.Machine

variable {s t u : State} {bytes : List Byte} {k : Nat}

/-! ### Completing and selecting (R161, R163, R165) -/

/-- The handler of R163 goes to `Idle` before its write, so that write sets no mark. -/
@[simp] theorem overrunAfterWrite_byteSent (cur : Byte) (s : State) : overrunAfterWrite (byteSent cur s) = s.txOverrun :=
  Bool.or_false _

/-- Settles O33: the last byte, and any byte before it. -/
theorem txcAdvancesOrEnds : Obligations.TxcAdvancesOrEnds := by
  intro s len hsending hlen
  refine ⟨exec_txc_last hsending hlen, fun b hmore hb => ?_⟩
  rw [exec_txc_more hsending hlen hmore hb, txWrite, overrunAfterWrite_byteSent]
  rfl

theorem exec_sel_of_memRead {b : Byte} (h : memRead s s.tMsg 0 = .ok b) :
    exec .sel s = .next (goTo pcPollEcho (zeroResend (txWrite b (selectMessage s.tMsg s)))) := by
  simp only [exec, execSel, h]

/-- Settles O34: the four updates of `SEL`, with the overrun mark as R37 words it. -/
theorem selRestartsTheTransmitter : Obligations.SelRestartsTheTransmitter := by
  intro s b hb
  rw [exec_sel_of_memRead hb, txWrite, overrunAfterWrite_eq_or_decide]
  rfl

/-! ### Operations that are not enabled (R162, R194, R212) -/

theorem exec_turnHold_of_held (h : s.holdCnt ≠ 0#16) : exec .turnHold s = .next s := if_neg h

theorem mainHeld_iff : mainHeld s = true ↔ s.mlPc = pcTurnHold ∧ s.holdCnt ≠ 0#16 := by
  simp [mainHeld]

/-- Settles O44: `TXC` in `Idle`; the held `TURN_HOLD`, also through `MAIN`; and `MAIN` in every other state. -/
theorem disabledOperationsChangeNothing : Obligations.DisabledOperationsChangeNothing := by
  refine ⟨fun s hidle => ?txc, fun s hhold => ⟨exec_turnHold_of_held hhold, fun hpc => ?held⟩, fun s hfree => ?free⟩
  case txc =>
    have hoff : txcEnabled s = false := by rw [txcEnabled, hidle]; rfl
    exact ⟨hoff, exec_txc_idle hidle⟩
  case held =>
    have hstep : decodeMls s.mlPc = .ok .turnHold := by rw [hpc]; rfl
    have hheld : mainHeld s = true := mainHeld_iff.mpr ⟨hpc, hhold⟩
    refine ⟨by rw [mainEnabled, hheld]; rfl, ?_⟩
    rw [exec_main_of_decodeMls_ok hstep, exec_turnHold_of_held hhold]
  case free =>
    have hnot : mainHeld s = false := by
      rw [← Bool.not_eq_true, mainHeld_iff, not_and_or, not_not]
      exact hfree
    rw [mainEnabled, hnot]
    rfl

/-! ### An undisturbed transmission (R164) -/

/-- Every byte of the selected message can be read, and `bytes` lists them. -/
structure SelectsMessage (bytes : List Byte) (s : State) : Prop where
  length : msgLen s s.msgSel = .ok bytes.length
  byte : ∀ k (h : k < bytes.length), memRead s s.msgSel k = .ok bytes[k]

/-- What `k` completions after byte 0 have made of the state `s`: byte `k` is in flight, and the bytes 1 to `k` are on the
wire behind what stood there. -/
structure ByteInFlight (bytes : List Byte) (s : State) (k : Nat) (u : State) : Prop where
  message : SelectsMessage bytes u
  sending : u.txState = .sending
  cursor : u.cursor.toNat = k
  wire : u.wire = s.wire ++ (bytes.tail.take k).map (⟨·, s.txOverrun⟩)
  overrun : u.txOverrun = s.txOverrun
  msgSel : u.msgSel = s.msgSel

theorem byteInFlight_zero (hmsg : SelectsMessage bytes s) (hsending : s.txState = .sending) (hcursor : s.cursor = 0#8) :
    ByteInFlight bytes s 0 s where
  message := hmsg
  sending := hsending
  cursor := by rw [hcursor]; rfl
  wire := by simp
  overrun := rfl
  msgSel := rfl

/-- A row of the table has 2 to 256 bytes (R63). -/
theorem msgLen_bounds {m : Nibble} {len : Nat} (hrom : s.cfg.romShape) (hm : m.toNat < 10) (h : msgLen s m = .ok len) :
    2 ≤ len ∧ len ≤ 256 := by
  have hbounds := rowLen_bounds hrom hm
  obtain rfl : rowLen s.cfg m = len := Except.ok.inj ((msgLen_ok_of hm (by omega)).symm.trans h)
  exact hbounds

/-- A completion before the last byte sends the next one; an index of at most 255 fits `CURSOR`. -/
theorem ByteInFlight.next (hu : ByteInFlight bytes s k u) (hfits : bytes.length ≤ 256) (hk : k + 1 < bytes.length) :
    ∃ v, exec .txc (lowerStrobe u) = .next v ∧ ByteInFlight bytes s (k + 1) v := by
  obtain ⟨hmsg, hsending, hcursor, hwire, hoverrun, hsel⟩ := hu
  have hmore : u.cursor.toNat + 1 ≠ bytes.length := by omega
  have hread : memRead u u.msgSel (u.cursor.toNat + 1) = .ok bytes[k + 1] := by rw [hcursor]; exact hmsg.byte _ hk
  have htake : bytes.tail.take (k + 1) = bytes.tail.take k ++ [bytes[k + 1]] := by
    rw [List.take_succ_eq_append_getElem (by rw [List.length_tail]; omega), List.getElem_tail]
  refine ⟨_, exec_txc_more (s := lowerStrobe u) hsending hmsg.length hmore hread, ?_⟩
  exact {
    message := ⟨hmsg.length, hmsg.byte⟩
    sending := rfl
    cursor := by
      rw [txWrite_cursor, byteSent_cursor, lowerStrobe_cursor, BitVec.toNat_add, hcursor]
      exact Nat.mod_eq_of_lt (show k + 1 < 256 by omega)
    wire := by simp [htake, hwire, hoverrun]
    overrun := by simp [hoverrun]
    msgSel := hsel }

/-- The completion at the last byte ends the message (R163). -/
theorem ByteInFlight.last (hu : ByteInFlight bytes s k u) (hk : k + 1 = bytes.length) :
    exec .txc (lowerStrobe u) = .next (byteSent 0#8 (lowerStrobe u)) :=
  exec_txc_last (s := lowerStrobe u) hu.sending hu.message.length (by rw [← hk, lowerStrobe_cursor, hu.cursor])

theorem deliver_replicate_succ {i : Instr} (hrun : deliver (List.replicate k i) s = .next u)
    (h : exec i (lowerStrobe u) = .next t) : deliver (List.replicate (k + 1) i) s = .next t := by
  rw [List.replicate_succ', deliver_append hrun, deliver_cons_next h, deliver_nil]

theorem deliver_txc_byteInFlight (hs : ByteInFlight bytes s 0 s) (hfits : bytes.length ≤ 256) (hk : k < bytes.length) :
    ∃ u, deliver (List.replicate k .txc) s = .next u ∧ ByteInFlight bytes s k u := by
  induction k with
  | zero => exact ⟨s, deliver_nil s, hs⟩
  | succ k ih =>
    obtain ⟨u, hrun, hu⟩ := ih (by omega)
    obtain ⟨v, hnext, hv⟩ := hu.next hfits hk
    exact ⟨v, deliver_replicate_succ hrun hnext, hv⟩

/-- Settles O35: each completion before the last puts the next byte in flight, and the last one ends the message. -/
theorem completeTransmission : Obligations.CompleteTransmission := by
  intro s bytes hsending hcursor hrom hm hlen hbytes
  obtain ⟨hmin, hfits⟩ := msgLen_bounds hrom hm hlen
  have hstart : ByteInFlight bytes s 0 s := byteInFlight_zero ⟨hlen, hbytes⟩ hsending hcursor
  constructor
  · have hlast : bytes.length - 1 + 1 = bytes.length := by omega
    obtain ⟨u, hrun, hu⟩ := deliver_txc_byteInFlight (k := bytes.length - 1) hstart hfits (by omega)
    have hend := deliver_replicate_succ hrun (hu.last hlast)
    rw [hlast] at hend
    have hall : bytes.tail.take (bytes.length - 1) = bytes.tail := List.take_of_length_le List.length_tail.le
    exact ⟨_, hend, rfl, rfl, hall ▸ hu.wire, hu.overrun, hu.msgSel⟩
  · intro k hk
    obtain ⟨u, hrun, hu⟩ := deliver_txc_byteInFlight hstart hfits hk
    exact ⟨u, hrun, hu.sending, hu.cursor⟩

end Sys2Proof.Machine
end

section
/-! PROOFS. The family of spec/46_motion_controller.md: the arms of the commands and of `EXEC` (R180 to R191), the output
stage (R196), a command up to the announcement of its message (R165, R197), and the timed turn: the stall while its hold
lasts (R193, R198) and its end (R194, R195). -/

namespace Sys2Proof.Machine

variable {i : Instr} {s t u : State} {m : Nibble} {n : Nat} {b : Byte}

/-! ### The arms (R180 to R191) -/

/-- Settles O40: each row is its assignments. -/
theorem commandArms : Obligations.CommandArms :=
  fun _ => ⟨rfl, rfl, rfl, rfl, rfl, rfl, rfl, rfl, rfl, rfl, fun _ => rfl⟩

theorem exec_exec_of_tCmd (h : s.tCmd = b) : exec .exec s = exec (decodeCmd b) s := by
  rw [exec_exec_eq_decoded, h]

/-- Settles O39: `EXEC` is the row `T_CMD` decodes to, and a byte outside the ten decodes to `UNKNOWN`. -/
theorem execPerformsTheArmOfTheOpcode : Obligations.ExecPerformsTheArmOfTheOpcode := by
  intro s
  obtain ⟨hfwd, hback, hstop, hobst, hccw, hcw, hreport, hspd70, hspd80, hspd100, hunknown⟩ := commandArms s
  refine ⟨fun h => (exec_exec_of_tCmd h).trans hfwd, fun h => (exec_exec_of_tCmd h).trans hback,
    fun h => (exec_exec_of_tCmd h).trans hstop, fun h => (exec_exec_of_tCmd h).trans hobst,
    fun h => (exec_exec_of_tCmd h).trans hccw, fun h => (exec_exec_of_tCmd h).trans hcw,
    fun h => (exec_exec_of_tCmd h).trans hreport, fun h => (exec_exec_of_tCmd h).trans hspd70,
    fun h => (exec_exec_of_tCmd h).trans hspd80, fun h => (exec_exec_of_tCmd h).trans hspd100, fun h => ?unknown⟩
  case unknown =>
    have hbyte : isCommandByte s.tCmd = false := by rw [isCommandByte, List.contains_eq_mem, decide_eq_false h]
    rw [exec_exec_eq_decoded, decodeCmd_of_not_isCommandByte hbyte]
    exact hunknown s.tCmd

/-! ### `TURN_HOLD` and `TURN_END` (R194, R195) -/

theorem exec_turnHold_of_zero (h : s.holdCnt = 0#16) : exec .turnHold s = .next (goTo pcTurnEnd s) := if_pos h

theorem mainEnabled_at_turnHold (hpc : s.mlPc = pcTurnHold) : mainEnabled s = true ↔ s.holdCnt = 0#16 := by
  rw [mainEnabled, Bool.not_eq_true', ← Bool.not_eq_true, mainHeld_iff, not_and, not_not]
  exact forall_prop_of_true hpc

/-- Settles O43: the step with the hold run out, the gate of `MAIN` there, and the stop. -/
theorem turnHoldEndsAndTurnEndStops : Obligations.TurnHoldEndsAndTurnEndStops :=
  ⟨fun _ => exec_turnHold_of_zero, fun _ => mainEnabled_at_turnHold, fun _ => rfl⟩

/-! ### The output stage (R43, R196) -/

/-- A percentage of at least 70 covers every bias, and one below 128 fits the port. -/
theorem dutyOut_add_bias {percent : Nat} (bias : Fin 71) (hlow : 70 ≤ percent) (hfits : percent < 128) :
    (dutyOut percent bias).toNat + bias.val = percent := by
  rw [dutyOut_toNat bias hfits]
  omega

theorem percent_bounds {c : Config} (h : c.dutyOk) (d : DutyPct) :
    70 ≤ d.percent c.dutySet ∧ d.percent c.dutySet < 128 := by
  obtain ⟨h70, h80, h100⟩ := h
  cases d with
  | p70 => exact ⟨h70, c.dutySet.spd70.isLt⟩
  | p80 => exact ⟨h80, c.dutySet.spd80.isLt⟩
  | p100 => exact ⟨h100, c.dutySet.spd100.isLt⟩

theorem duty_add_bias (h : s.cfg.dutyOk) :
    (duty0 s).toNat + s.cfg.bias0.val = s.dutyPct.percent s.cfg.dutySet ∧
      (duty1 s).toNat + s.cfg.bias1.val = s.dutyPct.percent s.cfg.dutySet := by
  obtain ⟨hlow, hfits⟩ := percent_bounds h s.dutyPct
  exact ⟨dutyOut_add_bias _ hlow hfits, dutyOut_add_bias _ hlow hfits⟩

theorem dutyOk_of_default {c : Config} (h : c.dutySet = DutySet.default) : c.dutyOk := by
  rw [Config.dutyOk, h]
  decide

/-- Each command row writes the direction or the duty or neither (R180 to R190). -/
theorem exec_command_keeps_dir_or_dutyPct (hi : i.format = .cmd) (h : exec i s = .next t) :
    t.dir = s.dir ∨ t.dutyPct = s.dutyPct := by
  cases i with
  | fwd | back | stop | obst | ccw | cw | report | unknown op => cases h; exact .inr rfl
  | spd70 | spd80 | spd100 => cases h; exact .inl rfl
  | _ => cases hi

/-- Settles O47: the document's `DUTY_SET` is one of those R43 allows, with its own three percentages. -/
theorem outputStage : Obligations.OutputStage := by
  refine ⟨fun s => ⟨?dir, fun hset => ?default, duty_add_bias⟩, fun _ _ _ => exec_command_keeps_dir_or_dutyPct⟩
  case dir =>
    rw [dirOut]
    cases s.dir <;> rfl
  case default =>
    have hduty := duty_add_bias (dutyOk_of_default hset)
    rw [hset] at hduty
    cases hd : s.dutyPct <;> rw [hd] at hduty <;> exact hduty

/-! ### A non-turn command and the announcement of its message (R180 to R183, R186 to R189, R165, R197) -/

/-- What a non-turn command leaves: a direction or a duty set, if its row sets one, and a message chosen. -/
def commanded (d : Option Direction) (p : Option DutyPct) (m : Nibble) (s : State) : State :=
  announce m { s with dir := d.getD s.dir, dutyPct := p.getD s.dutyPct }

/-- What `SEL` leaves of a state in which message `m` was chosen and its byte 0 is `b`. -/
def selected (m : Nibble) (b : Byte) (s : State) : State :=
  goTo pcPollEcho (zeroResend (txWrite b (selectMessage m s)))

/-- The rows without a hold: what each sets the direction or the duty to, if it does, and the message it chooses. -/
def rowsWithoutHold : List (Instr × Option Direction × Option DutyPct × Nibble) :=
  [(.fwd, some .forward, none, mFrente), (.back, some .backward, none, mTras), (.stop, some .stopped, none, mParado),
    (.obst, some .stopped, none, mObstaculo), (.report, none, none, mDist), (.spd70, none, some .p70, mVel70),
    (.spd80, none, some .p80, mVel80), (.spd100, none, some .p100, mVel100)]

theorem exec_rowsWithoutHold :
    ∀ row ∈ rowsWithoutHold, ∀ s, exec row.1 s = .next (commanded row.2.1 row.2.2.1 row.2.2.2 s) := by
  simp only [rowsWithoutHold, List.forall_mem_cons]
  exact ⟨fun _ => rfl, fun _ => rfl, fun _ => rfl, fun _ => rfl, fun _ => rfl, fun _ => rfl, fun _ => rfl,
    fun _ => rfl, nofun⟩

section
variable {d : Option Direction} {p : Option DutyPct} (hcmd : ∀ s, exec i s = .next (commanded d p m s))
include hcmd

/-- The command changes nothing a read of byte 0 depends on, so `SEL` reads what could be read before it. -/
theorem deliver_command_sel (hb : memRead s m 0 = .ok b) :
    deliver [i, .sel] s = .next (selected m b (lowerStrobe (commanded d p m (lowerStrobe s)))) := by
  have hread : memRead (lowerStrobe (commanded d p m (lowerStrobe s))) m 0 = .ok b :=
    (memRead_congr rfl rfl m 0).trans hb
  rw [deliver_cons_next (hcmd _), deliver_cons_next (exec_sel_of_memRead hread), deliver_nil]
  rfl

theorem deliver_command_sel_inv (h : deliver [i, .sel] s = .next t) :
    ∃ b, memRead s m 0 = .ok b ∧ t = selected m b (lowerStrobe (commanded d p m (lowerStrobe s))) := by
  obtain ⟨v, hv, hrest⟩ := deliver_cons_inv h
  obtain rfl : commanded d p m (lowerStrobe s) = v := Host.Outcome.next.inj ((hcmd _).symm.trans hv)
  obtain ⟨w, hw, hend⟩ := deliver_cons_inv hrest
  obtain rfl : w = t := Host.Outcome.next.inj hend
  obtain ⟨b, hb, rfl⟩ := exec_sel_inv hw
  exact ⟨b, (memRead_congr rfl rfl m 0).symm.trans hb, rfl⟩

end

/-- Settles O41: the command's registers, then those of `SEL`. -/
theorem commandThenSelectAnnouncesIt : Obligations.CommandThenSelectAnnouncesIt := by
  intro row hrow s b hb
  refine ⟨_, deliver_command_sel (exec_rowsWithoutHold row hrow) hb, ?_⟩
  simp [selected, commanded]

/-- Settles O42: setting a register again to the same value changes nothing, and the second byte 0 finds the transmitter
busy with the first. -/
theorem repeatedCommandIsIdempotent : Obligations.RepeatedCommandIsIdempotent := by
  intro c hc s t u hfirst hsecond
  have hnames : [Instr.fwd, .back, .stop, .obst, .report, .spd70, .spd80, .spd100] = rowsWithoutHold.map Prod.fst := rfl
  obtain ⟨⟨c, d, p, m⟩, hrow, rfl⟩ := List.mem_map.mp (hnames ▸ hc)
  have hcmd := exec_rowsWithoutHold _ hrow
  obtain ⟨b, -, ht⟩ := deliver_command_sel_inv hcmd hfirst
  obtain ⟨b', hb', hu⟩ := deliver_command_sel_inv hcmd hsecond
  have hdir : d.getD (d.getD s.dir) = d.getD s.dir := by cases d <;> rfl
  have hduty : p.getD (p.getD s.dutyPct) = p.getD s.dutyPct := by cases p <;> rfl
  have hsel : t.msgSel = m := by simp [ht, selected]
  have hbusy : t.txState = .sending := by simp [ht, selected]
  refine ⟨?_, ?_, ?_, ?_, ?_, ?_, ?_, ?_, ?_, ?_, b', hsel ▸ hb', ?wire⟩
  case wire => simp [hu, selected, commanded, overrunAfterWrite, hbusy]
  all_goals simp [hu, ht, selected, commanded, hdir, hduty]

/-! ### While the hold lasts (R193, R194, R198) -/

theorem sameMainOwned.trans (hsu : sameMainOwned s u) (hut : sameMainOwned u t) : sameMainOwned s t := by
  simp only [sameMainOwned] at hut ⊢
  simpa only [hut] using hsu

/-- What the hold of the state `s` keeps through `n` ticks: the main loop's registers, a waiting capture and a waiting
command; and what it has left. -/
structure Stalled (s : State) (n : Nat) (t : State) : Prop where
  cfg : t.cfg = s.cfg
  same : sameMainOwned s t
  capture : s.echoReady = true → t.echoReady = true
  mailbox : s.cmdPresent = true → MailboxHolds s.cmdCode t
  hold : t.holdCnt.toNat = s.holdCnt.toNat - n

theorem stalled_zero (s : State) : Stalled s 0 s where
  cfg := rfl
  same := by simp only [sameMainOwned, and_self]
  capture := id
  mailbox := fun hfull => ⟨hfull, rfl⟩
  hold := rfl

theorem Stalled.strobeLow (hs : Stalled s n u) : Stalled s n (lowerStrobe u) :=
  ⟨hs.cfg, hs.same, hs.capture, fun hfull => ⟨(hs.mailbox hfull).present, (hs.mailbox hfull).code⟩, hs.hold⟩

/-- No handler writes what the stall keeps, but the hold. -/
theorem Stalled.handler {n' : Nat} (hctx : i.context = .interrupt) (hs : Stalled s n u) (h : exec i u = .next t)
    (hhold : t.holdCnt.toNat = s.holdCnt.toNat - n') : Stalled s n' t where
  cfg := (exec_keeps_cfg_due_envCount h).1.trans hs.cfg
  same := hs.same.trans (handler_keeps_main_registers hctx h)
  capture := fun hready => handler_keeps_echoReady_high hctx h (hs.capture hready)
  mailbox := fun hfull => (hs.mailbox hfull).handler hctx h
  hold := hhold

theorem Stalled.tick (hs : Stalled s n u) (h : exec .tick u = .next t) : Stalled s (n + 1) t := by
  obtain ⟨-, -, hzero, hpos⟩ := tickCountsThePulseAndTheHold u t h
  have hleft := hs.hold
  have hdown : t.holdCnt.toNat = u.holdCnt.toNat - 1 := by
    by_cases h0 : u.holdCnt.toNat = 0
    · rw [hzero h0, h0]
    · exact hpos (Nat.pos_of_ne_zero h0)
  exact hs.handler rfl h (by omega)

/-- `MAIN` offered before the hold has run out is not enabled (log 6). -/
theorem Stalled.main (hpc : s.mlPc = pcTurnHold) (hn : n < s.holdCnt.toNat) (hs : Stalled s n u)
    (h : exec .main u = .next t) : Stalled s n t := by
  obtain ⟨-, -, -, -, -, -, -, -, -, -, hpc'⟩ := hs.same
  have hleft := hs.hold
  have hheld : u.holdCnt ≠ 0#16 := by intro h0; rw [h0, BitVec.toNat_zero] at hleft; omega
  obtain ⟨-, hoffered, -⟩ := disabledOperationsChangeNothing
  obtain ⟨-, hmain⟩ := hoffered u hheld
  obtain ⟨-, hstays⟩ := hmain (hpc'.trans hpc)
  obtain rfl : u = t := Host.Outcome.next.inj (hstays.symm.trans h)
  exact hs

/-- An event other than `TICK` and `RESET`: a handler, which leaves the hold alone (R46), or the disabled `MAIN`. -/
theorem Stalled.of_not_tick (hpc : s.mlPc = pcTurnHold) (hn : n < s.holdCnt.toNat) (hfmt : i.format = .evt)
    (htick : i ≠ .tick) (hreset : i ≠ .reset) (hs : Stalled s n u) (h : exec i u = .next t) : Stalled s n t := by
  cases i with
  | main => exact hs.main hpc hn h
  | tick | reset => contradiction
  | echoRise | echoFall | rx b | txc =>
    obtain ⟨-, -, -, -, -, -, -, hhold, -⟩ := onlyOwnersWrite _ u t (by nofun) (by nofun) h
    have hsame : t.holdCnt = u.holdCnt := not_not.mp (mt hhold (by simp))
    exact hs.handler rfl h (hsame ▸ hs.hold)
  | _ => cases hfmt

/-- Settles O46: as long as ticks are left, every event of the run keeps the stall. -/
theorem turnHoldStallsThePolling : Obligations.TurnHoldStallsThePolling := by
  intro es s t hes hpc hticks h
  have hend : 0 + es.count .tick < s.holdCnt.toNat → Stalled s (0 + es.count .tick) t := by
    refine deliver_count_ticks (P := fun n u => n < s.holdCnt.toNat → Stalled s n u) ?tick ?other
      (fun _ => stalled_zero s) h
    case tick => exact fun n u v hu hx hn => (hu (by omega)).strobeLow.tick hx
    case other =>
      intro i hi htick n u v hu hx hn
      obtain ⟨hfmt, hreset⟩ := hes i hi
      exact (hu hn).strobeLow.of_not_tick hpc hn hfmt htick hreset hx
  rw [Nat.zero_add] at hend
  obtain ⟨-, hsame, hcapture, hmailbox, hhold⟩ := hend hticks
  exact ⟨hsame, hcapture, fun hfull => ⟨(hmailbox hfull).present, (hmailbox hfull).code⟩, hhold⟩

/-! ### A whole turn (R184, R185, R193 to R195) -/

/-- A tick completes wherever byte 0 of the selected message can be read (R103), which no tick changes. -/
theorem deliver_ticks_stalled (hb : memRead s s.msgSel 0 = .ok b) (n : Nat) :
    ∃ u, deliver (ticks n) s = .next u ∧ Stalled s n u := by
  induction n with
  | zero => exact ⟨s, deliver_nil s, stalled_zero s⟩
  | succ n ih =>
    obtain ⟨u, hrun, hu⟩ := ih
    obtain ⟨-, -, hmem, -, -, -, -, -, -, hsel, -⟩ := hu.same
    have hread : memRead (lowerStrobe u) u.msgSel 0 = .ok b := by
      rw [hsel]
      exact (memRead_congr hu.cfg hmem _ _).trans hb
    obtain ⟨v, hv, -⟩ := tickCompletesAndWritesNothingElse (lowerStrobe u) (.inr ⟨b, hread⟩)
    exact ⟨v, deliver_replicate_succ hrun hv, hu.strobeLow.tick hv⟩

/-- What the steps after a turn's hold leave before `SEL` (R194, R195). -/
def turnOver (s : State) : State := { s with dir := .stopped, mlPc := pcSel, txStrobe := false }

theorem deliver_mains_two (hpc : s.mlPc = pcTurnHold) (hzero : s.holdCnt = 0#16) :
    deliver (mains 2) s = .next (turnOver s) := by
  have hhold : decodeMls s.mlPc = .ok .turnHold := by rw [hpc]; rfl
  refine (deliver_mains_succ hhold (exec_turnHold_of_zero hzero)).trans ?_
  exact (deliver_mains_succ (i := .turnEnd) rfl rfl).trans (deliver_nil _)

/-- With the hold run out three `MAIN` events go on, stop and select the turn's message. -/
theorem deliver_mains_three (hpc : s.mlPc = pcTurnHold) (hzero : s.holdCnt = 0#16) (hb : memRead s s.tMsg 0 = .ok b) :
    deliver (mains 3) s = .next (selected s.tMsg b (lowerStrobe (turnOver s))) := by
  have hread : memRead (lowerStrobe (turnOver s)) s.tMsg 0 = .ok b := (memRead_congr rfl rfl s.tMsg 0).trans hb
  have hsel : exec .main (lowerStrobe (turnOver s)) = exec .sel (lowerStrobe (turnOver s)) :=
    exec_main_of_decodeMls_ok rfl
  exact deliver_replicate_succ (deliver_mains_two hpc hzero) (hsel.trans (exec_sel_of_memRead hread))

/-- The rows with a hold: the direction each sets and the message it chooses for afterwards. -/
def turnRows : List (Instr × Direction × Nibble) :=
  [(.ccw, .counterClockwiseTurn, mAntiHorario), (.cw, .clockwiseTurn, mHorario)]

theorem exec_turnRows : ∀ row ∈ turnRows, ∀ s, exec row.1 s = .next (startTurn row.2.1 row.2.2 s) := by
  simp only [turnRows, List.forall_mem_cons]
  exact ⟨fun _ => rfl, fun _ => rfl, nofun⟩

/-- Settles O45: the ticks use up the hold, under the stall of the main loop, which then goes on to stop and announce. -/
theorem turnHoldsThenStopsThenAnnounces : Obligations.TurnHoldsThenStopsThenAnnounces := by
  intro row hrow s b b' hb hb'
  have hturn {rest} := deliver_cons_next (rest := rest) (exec_turnRows row hrow (lowerStrobe s))
  have hread : memRead (startTurn row.2.1 row.2.2 (lowerStrobe s)) s.msgSel 0 = .ok b :=
    (memRead_congr rfl rfl _ _).trans hb
  have hticks := deliver_ticks_stalled hread
  constructor
  · intro k hk
    obtain ⟨u, hrun, hu⟩ := hticks k
    obtain ⟨-, -, -, -, -, -, -, hdir, -, -, hpc⟩ := hu.same
    have hleft : u.holdCnt.toNat = s.cfg.turnHoldTicks.toNat - k := hu.hold
    refine ⟨u, hturn.trans hrun, hdir, hpc, hleft, (mainEnabled_at_turnHold hpc).trans ?_⟩
    rw [← BitVec.toNat_inj, hleft, BitVec.toNat_zero]
    omega
  · obtain ⟨u, hrun, hu⟩ := hticks s.cfg.turnHoldTicks.toNat
    obtain ⟨-, -, hmem, -, -, hmsg, -, -, hduty, -, hpc⟩ := hu.same
    have hzero : u.holdCnt = 0#16 := BitVec.eq_of_toNat_eq (hu.hold.trans (Nat.sub_self _))
    have hread' : memRead u u.tMsg 0 = .ok b' := by
      rw [hmsg]
      exact (memRead_congr hu.cfg hmem _ _).trans hb'
    refine ⟨_, (deliver_append (hturn.trans hrun)).trans (deliver_mains_three hpc hzero hread'), ?_⟩
    simp [selected, turnOver, hmsg, hduty]

end Sys2Proof.Machine
end

section
/-! PROOFS. The family of spec/47_main_loop.md: the step `MAIN` names and its successor (R191, R211), the obstacle override
(R213), and the length of an iteration (R92, R211). -/

namespace Sys2Proof.Machine

variable {i : Instr} {s t : State} {b : Byte} {n : Nat}

/-! ### The step and its successor (R191, R211) -/

/-- Settles O8: `EXEC` decodes every byte, and a reserved step number decodes to nothing. -/
theorem mainAndExecRunWhatTheirRegisterNames : Obligations.MainAndExecRunWhatTheirRegisterNames := by
  refine ⟨fun _ _ hi => exec_main_of_decodeMls_ok hi, fun s i hi => ?exec,
    fun s hpc => exec_main_of_decodeMls_error (decodeMls_of_eleven_le hpc)⟩
  case exec =>
    obtain rfl : decodeCmd s.tCmd = i := Except.ok.inj hi
    exact exec_exec_eq_decoded s

/-- Where a command leads (R180 to R190): a turn to its hold, `UNKNOWN` back to the start, any other to its announcement. -/
def commandSuccessor : Instr → Nibble
  | .ccw | .cw => pcTurnHold
  | .unknown _ => pcPollEcho
  | _ => pcSel

theorem exec_command_successor (hi : i.format = .cmd) (s : State) :
    ∃ t, exec i s = .next t ∧ t.mlPc = commandSuccessor i := by
  cases i with
  | fwd | back | stop | obst | ccw | cw | report | spd70 | spd80 | spd100 | unknown op => exact ⟨_, rfl, rfl⟩
  | _ => cases hi

/-- The row `EXEC` of R211's table, by the byte in `T_CMD`. -/
theorem commandSuccessor_decodeCmd (b : Byte) :
    commandSuccessor (decodeCmd b) =
      if b ∈ [0x77#8, 0x73#8, 0x71#8, 0x58#8, 0x65#8, 0x37#8, 0x38#8, 0x30#8] then 10#4
      else if b ∈ [0x61#8, 0x64#8] then 8#4 else 0#4 := by
  split_ifs with hannounced hturn
  · simp only [List.mem_cons, List.not_mem_nil, or_false] at hannounced
    rcases hannounced with rfl | rfl | rfl | rfl | rfl | rfl | rfl | rfl <;> rfl
  · simp only [List.mem_cons, List.not_mem_nil, or_false] at hturn
    rcases hturn with rfl | rfl <;> rfl
  · have hbyte : isCommandByte b = false := by
      simp only [isCommandByte, List.contains_eq_mem, decide_eq_false_iff_not]
      simp only [List.mem_cons, List.not_mem_nil, or_false, not_or] at hannounced hturn ⊢
      simp only [hannounced, hturn, not_false_eq_true, and_self]
    rw [decodeCmd_of_not_isCommandByte hbyte]
    rfl

/-- The successor table of R211, with `TURN_HOLD` staying while the hold lasts (log 6), for the operations that are steps. -/
def successor (s : State) : Instr → Nibble
  | .pollEcho => if s.echoReady then pcEstLoad else pcPollObst
  | .estLoad => pcEstDist
  | .estDist => pcEstLed
  | .estLed => pcEstFmt
  | .estFmt => pcPollObst
  | .pollObst => pcPollCmd
  | .pollCmd => if s.cmdPresent then pcExec else pcPollEcho
  | .exec => commandSuccessor (decodeCmd s.tCmd)
  | .turnHold => if s.holdCnt = 0#16 then pcTurnEnd else s.mlPc
  | .turnEnd => pcSel
  | .sel => pcPollEcho
  | _ => s.mlPc

theorem exec_pollObst_of_due (h : overrideDue s = true) :
    exec .pollObst s = .next (goTo pcPollCmd (submit opObst s)) := if_pos h

theorem exec_pollObst_of_not_due (h : overrideDue s = false) : exec .pollObst s = .next (goTo pcPollCmd s) :=
  if_neg (by simp [h])

/-- Every step completes, `SEL` where byte 0 of its message can be read, and moves on by the table. -/
theorem mainLoopStep_successor (hi : i.format = .mls) (hsel : i = .sel → ∃ b, memRead s s.tMsg 0 = .ok b) :
    ∃ t, exec i s = .next t ∧ t.mlPc = successor s i := by
  cases i with
  | estLoad | estDist | estLed | estFmt | turnEnd => exact ⟨_, rfl, rfl⟩
  | pollEcho => exact ⟨_, pollEchoTestsAndClears s, apply_ite State.mlPc _ _ _⟩
  | pollCmd => exact ⟨_, pollCmdTakes s, apply_ite State.mlPc _ _ _⟩
  | pollObst =>
    cases hdue : overrideDue s with
    | true => exact ⟨_, exec_pollObst_of_due hdue, rfl⟩
    | false => exact ⟨_, exec_pollObst_of_not_due hdue, rfl⟩
  | exec =>
    rw [exec_exec_eq_decoded]
    exact exec_command_successor (decodeCmd_format s.tCmd) s
  | turnHold =>
    by_cases hzero : s.holdCnt = 0#16
    · exact ⟨_, exec_turnHold_of_zero hzero, (if_pos hzero).symm⟩
    · exact ⟨_, exec_turnHold_of_held hzero, (if_neg hzero).symm⟩
  | sel =>
    obtain ⟨b, hb⟩ := hsel rfl
    exact ⟨_, exec_sel_of_memRead hb, rfl⟩
  | _ => cases hi

theorem exists_decodeMls_of_le_ten {pc : Nibble} (h : pc.toNat ≤ 10) : ∃ i, decodeMls pc = .ok i := by
  unfold decodeMls
  split
  case h_12 =>
    simp only [imp_false] at *
    bv_omega
  all_goals exact ⟨_, rfl⟩

/-- Settles O9: the clause of a step number is the row of the successor table that the number decodes to. -/
theorem mainLoopSuccessors : Obligations.MainLoopSuccessors := by
  intro s hpc hread
  obtain ⟨i, hi⟩ := exists_decodeMls_of_le_ten hpc
  have hsel : i = .sel → ∃ b, memRead s s.tMsg 0 = .ok b := by
    rintro rfl
    exact hread (OpWord.mls.inj (encode_of_decodeMls hi)).symm
  obtain ⟨t, hx, ht⟩ := mainLoopStep_successor (decodeMls_format hi) hsel
  have hrow {pc : Nibble} (j : Instr) (hj : decodeMls pc = .ok j) (h : s.mlPc = pc) : t.mlPc = successor s j := by
    obtain rfl : j = i := Except.ok.inj (hj.symm.trans (h ▸ hi))
    exact ht
  exact ⟨t, (exec_main_of_decodeMls_ok hi).trans hx, hrow .pollEcho rfl, hrow .estLoad rfl, hrow .estDist rfl,
    hrow .estLed rfl, hrow .estFmt rfl, hrow .pollObst rfl, hrow .pollCmd rfl,
    fun h => (hrow .exec rfl h).trans (commandSuccessor_decodeCmd s.tCmd),
    fun h hzero => (hrow .turnHold rfl h).trans (if_pos hzero), hrow .turnEnd rfl, hrow .sel rfl⟩

/-! ### The obstacle override (R213) -/

theorem overrideDue_iff :
    overrideDue s = true ↔ s.dir = .forward ∧ s.distance.toNat ≤ s.cfg.dMin ∧ s.lastCmd ≠ opObst := by
  simp [overrideDue, nearObstacle, and_assoc]

/-- Settles O48: the override into an empty mailbox; and where it is not due, or `submit` drops its code. -/
theorem pollObstSubmitsTheObstacleCode : Obligations.PollObstSubmitsTheObstacleCode := by
  intro s
  constructor
  · intro hdue hempty
    rw [exec_pollObst_of_due (overrideDue_iff.mpr hdue), submit_empty hempty]
    rfl
  · intro hdropped
    cases hdue : overrideDue s with
    | false => exact exec_pollObst_of_not_due hdue
    | true =>
      have hfull : s.cmdPresent = true := hdropped.resolve_left (not_not.mpr (overrideDue_iff.mp hdue))
      rw [exec_pollObst_of_due hdue, submit_full hfull]
      rfl

/-- What `POLL_OBST` and `POLL_CMD` leave of a due override: its code has gone through the mailbox (R213, R152). -/
def overridden (s : State) : State :=
  { s with cmdCode := opObst, tCmd := opObst, lastCmd := opObst, mlPc := pcExec, txStrobe := false }

theorem deliver_mains_override (hpc : s.mlPc = pcPollObst) (hdue : overrideDue s = true) (hempty : s.cmdPresent = false) :
    deliver (mains (n + 2)) s = deliver (mains n) (overridden s) := by
  have hpoll : decodeMls s.mlPc = .ok .pollObst := by rw [hpc]; rfl
  obtain ⟨hsubmit, -⟩ := pollObstSubmitsTheObstacleCode (lowerStrobe s)
  refine (deliver_mains_succ hpoll (hsubmit (overrideDue_iff.mp hdue) hempty)).trans ?_
  refine (deliver_mains_succ rfl (exec_pollCmd_of_full rfl)).trans ?_
  simp only [lowerStrobe, overridden, hempty]

/-- What the iteration leaves that finds an obstacle (R213 corner case (a)). -/
def obstacleAnnounced (b : Byte) (s : State) : State :=
  selected mObstaculo b (lowerStrobe (commanded (some .stopped) none mObstaculo (lowerStrobe (overridden s))))

theorem deliver_mains_obstacle (hpc : s.mlPc = pcPollObst) (hdue : overrideDue s = true) (hempty : s.cmdPresent = false)
    (hb : memRead s mObstaculo 0 = .ok b) : deliver (mains 4) s = .next (obstacleAnnounced b s) := by
  have hread : memRead (lowerStrobe (commanded (some .stopped) none mObstaculo (lowerStrobe (overridden s)))) mObstaculo 0 =
      .ok b := (memRead_congr rfl rfl _ _).trans hb
  refine (deliver_mains_override hpc hdue hempty).trans ?_
  refine (deliver_mains_succ (i := .exec) rfl (exec_exec_of_tCmd rfl)).trans ?_
  exact (deliver_mains_succ (i := .sel) rfl (exec_sel_of_memRead hread)).trans (deliver_nil _)

/-- An iteration with no capture, no override and no command changes nothing but the strobe. -/
theorem deliver_mains_idle (hpc : s.mlPc = pcPollEcho) (hready : s.echoReady = false) (hdue : overrideDue s = false)
    (hempty : s.cmdPresent = false) : deliver (mains 3) s = .next { s with txStrobe := false } := by
  have hpoll : decodeMls s.mlPc = .ok .pollEcho := by rw [hpc]; rfl
  refine (deliver_mains_succ hpoll (exec_pollEcho_of_not_ready hready)).trans ?_
  have hnotDue : overrideDue (lowerStrobe (goTo pcPollObst (lowerStrobe s))) = false := hdue
  refine (deliver_mains_succ rfl (exec_pollObst_of_not_due hnotDue)).trans ?_
  have hnone : (lowerStrobe (goTo pcPollCmd (lowerStrobe (goTo pcPollObst (lowerStrobe s))))).cmdPresent = false := hempty
  refine (deliver_mains_succ rfl (exec_pollCmd_of_empty hnone)).trans ?_
  simp only [lowerStrobe, goTo, ← hpc]
  exact deliver_nil _

theorem overrideDue_of_stopped (h : s.dir = .stopped) : overrideDue s = false := by
  rw [overrideDue, h]
  rfl

/-- Settles O49: once the motion has stopped the override is not due, so the next iteration is an idle one. -/
theorem obstacleStopsInTheSameIterationOnce : Obligations.ObstacleStopsInTheSameIterationOnce := by
  intro s b hpc hdir hdist hlast hempty hready hb
  have hrun := deliver_mains_obstacle hpc (overrideDue_iff.mpr ⟨hdir, hdist, hlast⟩) hempty hb
  have hleft : (obstacleAnnounced b s).dir = .stopped ∧ (obstacleAnnounced b s).cmdPresent = false ∧
      (obstacleAnnounced b s).echoReady = false ∧ (obstacleAnnounced b s).mlPc = pcPollEcho := by
    simp [obstacleAnnounced, selected, commanded, overridden, hempty, hready]
  obtain ⟨hstopped, hnone, hquiet, hback⟩ := hleft
  have hidle := deliver_mains_idle hback hquiet (overrideDue_of_stopped hstopped) hnone
  exact ⟨_, hrun, hstopped, rfl, rfl, hnone, hback, rfl, hidle⟩

/-! ### The length of an iteration (R92, R211) -/

/-- From inside an iteration `n` `MAIN` steps lead to `POLL_ECHO`, and no fewer do. -/
structure ReturnsIn (n : Nat) (s : State) : Prop where
  arrives : ∃ t, deliver (mains n) s = .next t ∧ t.mlPc = pcPollEcho
  before : ∀ k u, k < n → deliver (mains k) s = .next u → u.mlPc ≠ pcPollEcho

theorem returnsIn_zero (hpc : s.mlPc = pcPollEcho) : ReturnsIn 0 s := ⟨⟨s, deliver_nil s, hpc⟩, by omega⟩

/-- A step of the main loop, run as a `MAIN` event with the strobe lowered, keeps the invariant. -/
theorem strobeLoweredStep_keeps_inv (hs : s.Inv) (hi : decodeMls s.mlPc = .ok i) (h : exec i (lowerStrobe s) = .next t) :
    t.Inv := by
  have hlow : (lowerStrobe s).Inv := hs
  exact mainLoopStep_keeps_inv hlow hi h

/-- One step of an iteration under way, which keeps the invariant. -/
theorem returnsIn_succ (hs : s.Inv) (hi : decodeMls s.mlPc = .ok i) (hne : i ≠ .pollEcho)
    (hx : exec i (lowerStrobe s) = .next t) (ht : t.Inv → ReturnsIn n t) : ReturnsIn (n + 1) s := by
  obtain ⟨⟨v, hrun, hv⟩, hbefore⟩ := ht (strobeLoweredStep_keeps_inv hs hi hx)
  refine ⟨⟨v, (deliver_mains_succ hi hx).trans hrun, hv⟩, fun k u hlt hu => ?_⟩
  cases k with
  | zero =>
    obtain rfl : s = u := Host.Outcome.next.inj hu
    intro hpc
    rw [hpc] at hi
    exact hne (Except.ok.inj hi).symm
  | succ k => exact hbefore k u (by omega) ((deliver_mains_succ hi hx).symm.trans hu)

theorem memRead_zero_of_inv (hs : s.Inv) {m : Nibble} (hm : m.toNat < 10) : ∃ b, memRead s m 0 = .ok b := by
  obtain ⟨⟨-, hrom⟩, -, -, ⟨-, hdigit, -⟩, -⟩ := hs
  have hlen := rowLen_bounds hrom hm
  exact memRead_ok_of hm (by omega) fun _ _ => hdigit

theorem returnsIn_of_sel (hs : s.Inv) (hi : decodeMls s.mlPc = .ok .sel) : ReturnsIn 1 s := by
  have ⟨_, _, ⟨_, _, hmsg, _⟩, _⟩ := hs
  obtain ⟨b, hb⟩ := memRead_zero_of_inv hs hmsg
  exact returnsIn_succ hs hi nofun (exec_sel_of_memRead (s := lowerStrobe s) hb) fun _ => returnsIn_zero rfl

theorem returnsIn_of_turnHold (hs : s.Inv) (hi : decodeMls s.mlPc = .ok .turnHold) (hzero : s.holdCnt = 0#16) :
    ReturnsIn 3 s := by
  refine returnsIn_succ hs hi nofun (exec_turnHold_of_zero hzero) fun hs => ?_
  exact returnsIn_succ (i := .turnEnd) hs rfl nofun rfl fun hs => returnsIn_of_sel hs rfl

/-- The steps from `EXEC` to the end of the iteration, for the command it performs under a hold of 0. -/
def stepsFromExec : Instr → Nat
  | .ccw | .cw => 4
  | .unknown _ => 1
  | _ => 2

theorem stepsFromExec_bounds (i : Instr) : 1 ≤ stepsFromExec i ∧ stepsFromExec i ≤ 4 := by
  unfold stepsFromExec
  split <;> decide

/-- No turn hold is waited for once the code is performed (R92). -/
def NoHoldFor (b : Byte) (s : State) : Prop := b = opCcw ∨ b = opCw → s.cfg.turnHoldTicks = 0#16

theorem returnsIn_of_exec (hs : s.Inv) (hi : decodeMls s.mlPc = .ok .exec) (hhold : NoHoldFor s.tCmd s) :
    ReturnsIn (stepsFromExec (decodeCmd s.tCmd)) s := by
  have hx : exec .exec (lowerStrobe s) = exec (decodeCmd s.tCmd) (lowerStrobe s) := exec_exec_eq_decoded (lowerStrobe s)
  have hword := encode_decodeCmd s.tCmd
  have hfmt := decodeCmd_format s.tCmd
  generalize decodeCmd s.tCmd = j at hx hword hfmt
  cases j with
  | unknown op => exact returnsIn_succ hs hi nofun hx fun _ => returnsIn_zero rfl
  | ccw | cw =>
    have hzero := hhold (by simp [← OpWord.cmd.inj hword])
    exact returnsIn_succ hs hi nofun hx fun hs => returnsIn_of_turnHold hs rfl hzero
  | fwd | back | stop | obst | report | spd70 | spd80 | spd100 =>
    exact returnsIn_succ hs hi nofun hx fun hs => returnsIn_of_sel hs rfl
  | _ => cases hfmt

theorem returnsIn_of_pollCmd_full (hs : s.Inv) (hi : decodeMls s.mlPc = .ok .pollCmd) (hfull : s.cmdPresent = true)
    (hhold : NoHoldFor s.cmdCode s) : ReturnsIn (stepsFromExec (decodeCmd s.cmdCode) + 1) s :=
  returnsIn_succ hs hi nofun (exec_pollCmd_of_full hfull) fun hs => returnsIn_of_exec hs rfl hhold

theorem returnsIn_of_pollCmd_empty (hs : s.Inv) (hi : decodeMls s.mlPc = .ok .pollCmd) (hempty : s.cmdPresent = false) :
    ReturnsIn 1 s :=
  returnsIn_succ hs hi nofun (exec_pollCmd_of_empty hempty) fun _ => returnsIn_zero rfl

/-- The rest of an iteration after the estimator: `m` steps, by the command that waits or is synthesized. -/
structure RestOfIteration (m : Nat) (s : State) : Prop where
  bounds : 2 ≤ m ∧ m ≤ 6
  returns : ReturnsIn m s
  idle : s.cmdPresent = false → overrideDue s = false → m = 2
  turn : s.cmdPresent = true → s.cmdCode = opCcw ∨ s.cmdCode = opCw → m = 6

theorem restOfIteration_of_pollObst (hs : s.Inv) (hi : decodeMls s.mlPc = .ok .pollObst)
    (hhold : s.cmdPresent = true → NoHoldFor s.cmdCode s) : ∃ m, RestOfIteration m s := by
  obtain ⟨hsubmit, hdrop⟩ := pollObstSubmitsTheObstacleCode (lowerStrobe s)
  cases hfull : s.cmdPresent with
  | true =>
    have hsteps := stepsFromExec_bounds (decodeCmd s.cmdCode)
    exact ⟨stepsFromExec (decodeCmd s.cmdCode) + 2, {
      bounds := by omega
      returns := returnsIn_succ hs hi nofun (hdrop (.inr hfull)) fun hs =>
        returnsIn_of_pollCmd_full hs rfl hfull (hhold hfull)
      idle := fun hempty => by cases hempty.symm.trans hfull
      turn := by rintro - (hcode | hcode) <;> rw [hcode] <;> rfl }⟩
  | false =>
    have hturn {m : Nat} : s.cmdPresent = true → s.cmdCode = opCcw ∨ s.cmdCode = opCw → m = 6 :=
      fun hpresent => by cases hpresent.symm.trans hfull
    cases hdue : overrideDue s with
    | true =>
      have hobst : ¬ (opObst = opCcw ∨ opObst = opCw) := by decide
      exact ⟨4, {
        bounds := by decide
        returns := returnsIn_succ hs hi nofun (hsubmit (overrideDue_iff.mp hdue) hfull) fun hs =>
          returnsIn_of_pollCmd_full hs rfl rfl fun hcode => absurd hcode hobst
        idle := fun _ hnot => by cases hnot.symm.trans hdue
        turn := hturn }⟩
    | false =>
      exact ⟨2, {
        bounds := by decide
        returns := returnsIn_succ hs hi nofun (exec_pollObst_of_not_due (s := lowerStrobe s) hdue) fun hs =>
          returnsIn_of_pollCmd_empty hs rfl hfull
        idle := fun _ _ => rfl
        turn := hturn }⟩

theorem deliver_mains_keeps_inv (hs : s.Inv) (h : deliver (mains n) s = .next t) : t.Inv := by
  refine deliver_keeps (P := State.Inv) (fun i hi u v hu hx => ?_) hs h
  obtain rfl : i = .main := List.eq_of_mem_replicate hi
  obtain ⟨j, hj, hrow⟩ := exec_main_inv hx
  exact strobeLoweredStep_keeps_inv hu hj hrow

/-- A waiting capture puts the four steps of the estimator between `POLL_ECHO` and the rest (R131 to R134). -/
theorem returnsIn_of_capture (hs : s.Inv) (hpc : s.mlPc = pcPollEcho) (hready : s.echoReady = true)
    (hrest : ReturnsIn n (estimated s)) : ∃ t, exec .pollEcho (lowerStrobe s) = .next t ∧ ReturnsIn (n + 4) t := by
  have hpoll : decodeMls s.mlPc = .ok .pollEcho := by rw [hpc]; rfl
  have hx := exec_pollEcho_of_ready (s := lowerStrobe s) hready
  refine ⟨_, hx, returnsIn_succ (strobeLoweredStep_keeps_inv hs hpoll hx) rfl nofun (estLoadReadsThePulse _) fun hs => ?_⟩
  refine returnsIn_succ hs rfl nofun (exec_estDist _) fun hs => ?_
  refine returnsIn_succ hs rfl nofun (exec_estLed _) fun hs => ?_
  refine returnsIn_succ hs rfl nofun (exec_estFmt _) fun _ => ?_
  simp only [lowerStrobe]
  exact hrest

/-- What follows `POLL_ECHO`: the rest of the iteration, with the estimator before it if a capture waits. -/
theorem exists_returnsIn_after_pollEcho (hs : s.Inv) (hpc : s.mlPc = pcPollEcho)
    (hhold : s.cmdPresent = true → NoHoldFor s.cmdCode s) :
    ∃ t m, exec .pollEcho (lowerStrobe s) = .next t ∧ ReturnsIn m t ∧ 2 ≤ m ∧ m ≤ 10 ∧
      (s.echoReady = false → s.cmdPresent = false → overrideDue s = false → m = 2) ∧
      (s.echoReady = true → s.cmdPresent = true → s.cmdCode = opCcw ∨ s.cmdCode = opCw → m = 10) := by
  have hpoll : decodeMls s.mlPc = .ok .pollEcho := by rw [hpc]; rfl
  cases hready : s.echoReady with
  | true =>
    obtain ⟨m, hrest⟩ :=
      restOfIteration_of_pollObst (deliver_mains_keeps_inv hs (deliver_mains_five hpc hready)) rfl hhold
    obtain ⟨t, hx, ht⟩ := returnsIn_of_capture hs hpc hready hrest.returns
    have hbounds := hrest.bounds
    refine ⟨t, m + 4, hx, ht, by omega, by omega, nofun, fun _ hfull hcode => ?_⟩
    rw [hrest.turn hfull hcode]
  | false =>
    have hx := exec_pollEcho_of_not_ready (s := lowerStrobe s) hready
    obtain ⟨m, hrest⟩ := restOfIteration_of_pollObst (strobeLoweredStep_keeps_inv hs hpoll hx) rfl hhold
    have hbounds := hrest.bounds
    exact ⟨_, m, hx, hrest.returns, by omega, by omega, fun _ => hrest.idle, nofun⟩

/-- Settles O10: the step `POLL_ECHO` and the steps that follow it. -/
theorem anIterationTakesThreeToElevenSteps : Obligations.AnIterationTakesThreeToElevenSteps := by
  intro s hs hpc hhold
  have hpoll : decodeMls s.mlPc = .ok .pollEcho := by rw [hpc]; rfl
  obtain ⟨t, m, hx, ⟨⟨v, hrun, hv⟩, hbefore⟩, hmin, hmax, hidle, hturn⟩ := exists_returnsIn_after_pollEcho hs hpc hhold
  have hshift (k : Nat) : deliver (mains (k + 1)) s = deliver (mains k) t := deliver_mains_succ hpoll hx
  refine ⟨m + 1, by omega, by omega, ⟨v, (hshift m).trans hrun, hv⟩, fun k u hpos hlt hu => ?first,
    fun hready hempty hfar => ?idle, fun hready hfull hcode => ?turn⟩
  case first =>
    obtain ⟨k, rfl⟩ := Nat.exists_eq_succ_of_ne_zero hpos.ne'
    exact hbefore k u (by omega) ((hshift k).symm.trans hu)
  case idle =>
    have ⟨⟨⟨_, _, hthreshold, _⟩, _⟩, _⟩ := hs
    have hdue : overrideDue s = false := by
      rw [← Bool.not_eq_true, overrideDue_iff, hthreshold]
      rintro ⟨hdir, hnear, -⟩
      exact Nat.not_lt.mpr hnear (hfar hdir)
    rw [hidle hready hempty hdue]
  case turn => rw [hturn hready hfull hcode]

end Sys2Proof.Machine
end

section
/-! PROOFS. The families of spec/60_exceptions.md and spec/70_reset_and_hazards.md: no step stops under the invariant
(R230), and the ticks between `POLL_ECHO` and `EST_LOAD` (R270 (b)). -/

namespace Sys2Proof.Machine

variable {i : Instr} {s t : State}

/-! ### The events of R44 complete under the invariant (R230) -/

theorem isAsciiDigit_digit_of_inv (hs : s.Inv) {k : Nat} (hk : k < 3) : isAsciiDigit (digit s k) = true := by
  obtain ⟨-, -, -, ⟨-, h0, h1, h2⟩, -⟩ := hs
  interval_cases k
  · exact h0
  · exact h1
  · exact h2

/-- A read inside the message space is a byte: the digits are ASCII digits (R62). -/
theorem memRead_of_inv (hs : s.Inv) {m : Nibble} {k : Nat} (hm : m.toNat < 10) (hk : k < rowLen s.cfg m) :
    ∃ b, memRead s m k = .ok b :=
  memRead_ok_of hm hk fun _ hdigit => isAsciiDigit_digit_of_inv hs hdigit

theorem tick_completes (hs : s.Inv) : ∃ t, exec .tick s = .next t := by
  have ⟨_, _, ⟨_, hsel, _⟩, _⟩ := hs
  obtain ⟨t, h, -⟩ := tickCompletesAndWritesNothingElse s (.inr (memRead_zero_of_inv hs hsel))
  exact ⟨t, h⟩

/-- The cursor is inside the message, so before its last byte there is a next one to send (R163). -/
theorem txc_completes (hs : s.Inv) : ∃ t, exec .txc s = .next t := by
  have ⟨_, _, ⟨_, hsel, _, hcursor, _⟩, _⟩ := hs
  cases hstate : s.txState with
  | idle => exact ⟨s, exec_txc_idle hstate⟩
  | sending =>
    have hlen := msgLen_ok_of (s := s) hsel (Nat.zero_lt_of_lt hcursor)
    by_cases hlast : s.cursor.toNat + 1 = rowLen s.cfg s.msgSel
    · exact ⟨_, exec_txc_last hstate hlen hlast⟩
    · obtain ⟨b, hb⟩ := memRead_of_inv hs hsel (Nat.lt_of_le_of_ne hcursor hlast)
      exact ⟨_, exec_txc_more hstate hlen hlast hb⟩

theorem main_completes (hs : s.Inv) : ∃ t, exec .main s = .next t := by
  have ⟨_, _, ⟨hpc, _, hmsg, _⟩, _⟩ := hs
  obtain ⟨t, h, -⟩ := mainLoopSuccessors s hpc fun _ => memRead_zero_of_inv hs hmsg
  exact ⟨t, h⟩

theorem event_completes (hs : s.Inv) (hi : i.format = .evt) : ∃ t, exec i s = .next t := by
  cases i with
  | echoRise | echoFall | rx b | reset => exact ⟨_, rfl⟩
  | tick => exact tick_completes hs
  | txc => exact txc_completes hs
  | main => exact main_completes hs
  | _ => cases hi

/-- The next word decodes: a placed one that is not reserved, or the environment's (R87, log 1). -/
theorem exists_decodeEvt_fetchEvent (hplaced : ∀ w ∈ s.due.head?, w.toNat / 256 < 6) :
    ∃ i, decodeEvt (fetchEvent s).1 = .ok i ∧ i.format = .evt := by
  have hev : (evField (fetchEvent s).1).toNat < 6 := by
    cases hdue : s.due with
    | nil => exact (fetchEvent_of_due_nil hdue).1
    | cons w rest =>
      rw [fetchEvent_of_due_cons hdue, evField_toNat]
      exact hplaced w (by rw [hdue]; rfl)
  rcases decodeEvt_cases (fetchEvent s).1 with ⟨i, hi, hfmt, -⟩ | hreserved
  · exact ⟨i, hi, hfmt⟩
  · omega

/-- Settles O54: the next word decodes to an event, and every event completes under the invariant. -/
theorem noStepFaultsUnderTheInvariant : Obligations.NoStepFaultsUnderTheInvariant := by
  intro s hs hplaced
  obtain ⟨i, hi, hfmt⟩ := exists_decodeEvt_fetchEvent hplaced
  have hstart : (lowerStrobe (fetchEvent s).2).Inv := by rw [fetchEvent_frame]; exact hs
  rw [step_of_decodeEvt_ok hi]
  exact event_completes hstart hfmt

/-! ### Ticks between `POLL_ECHO` and `EST_LOAD` (R270 (b)) -/

theorem deliver_singleton (h : deliver [i] s = .next t) : exec i (lowerStrobe s) = .next t := by
  obtain ⟨u, hi, hrest⟩ := deliver_cons_inv h
  cases hrest
  exact hi

/-- While the flag is low a run of ticks adds its length to the pulse count, modulo 2^16 (R101). -/
theorem deliver_ticks_pulse {k : Nat} (hready : s.echoReady = false) (h : deliver (ticks k) s = .next t) :
    t.pulse.toNat = (s.pulse.toNat + k) % 65536 := by
  have hstart : PulseInFlight s.pulse.toNat s := ⟨hready, (Nat.mod_eq_of_lt s.pulse.isLt).symm⟩
  have hend : PulseInFlight (s.pulse.toNat + (ticks k).count .tick) t :=
    deliver_count_ticks (fun _ _ _ => PulseInFlight.tick)
      (fun i hi htick => absurd (List.eq_of_mem_replicate hi) htick) hstart h
  rw [ticks, List.count_replicate_self] at hend
  exact hend.count

/-- Interrupts leave the main loop at its step (R46). -/
theorem deliver_handlers_mlPc {es : List Instr} (hctx : ∀ i ∈ es, i.context = .interrupt)
    (h : deliver es s = .next t) : t.mlPc = s.mlPc := by
  refine deliver_keeps (P := fun u => u.mlPc = s.mlPc) (fun i hi u v hu hx => ?_) rfl h
  obtain ⟨-, -, -, -, -, -, -, -, -, -, hpc⟩ := handler_keeps_main_registers (hctx i hi) hx
  exact hpc.trans hu

/-- Settles O28: `POLL_ECHO` lowers the flag, so the ticks after it count until `EST_LOAD` reads. -/
theorem ticksBeforeTheLoadInflateTheReading : Obligations.TicksBeforeTheLoadInflateTheReading := by
  intro k s t hpc hready h
  obtain ⟨u, hfirst, hlast⟩ := deliver_append_inv h
  obtain ⟨p, hpoll, hticks⟩ := deliver_cons_inv hfirst
  have hpollStep : decodeMls (lowerStrobe s).mlPc = .ok .pollEcho := by rw [lowerStrobe_mlPc, hpc]; rfl
  rw [exec_main_of_decodeMls_ok hpollStep, exec_pollEcho_of_ready (s := lowerStrobe s) hready] at hpoll
  cases hpoll
  have hcount := deliver_ticks_pulse rfl hticks
  have hstep : u.mlPc = pcEstLoad :=
    deliver_handlers_mlPc (fun i hi => by rw [List.eq_of_mem_replicate hi]; rfl) hticks
  have hloadStep : decodeMls (lowerStrobe u).mlPc = .ok .estLoad := by rw [lowerStrobe_mlPc, hstep]; rfl
  have hload := deliver_singleton hlast
  rw [exec_main_of_decodeMls_ok hloadStep] at hload
  cases hload
  exact ⟨hcount, rfl⟩

end Sys2Proof.Machine
end
